-- ==== Sys2Proof/Word.lean ====
section
/-! DEFINITION. The word types of the block: every value is an unsigned bit vector (00_scope.md R13). -/

namespace Sys2Proof

/-- A command word of the command port: 64 bits (30_encoding.md R55). -/
abbrev CmdWord := BitVec 64

/-- A response word of the response path: 32 bits (30_encoding.md R56). -/
abbrev RespWord := BitVec 32

/-- A timestamp as the 16-bit port carries it (00_scope.md R7); legal values are below `M` (R6). -/
abbrev Timestamp := BitVec 16

/-- A pulse interval: an unsigned number below 65536 (40_frame_assembler.md R67, R68). -/
abbrev Interval := BitVec 16

/-- A raw frame of exactly 32 classified bits (00_scope.md R12). -/
abbrev Frame := BitVec 32

/-- A byte of a packet, or an event counter (00_scope.md R12, 10_state.md R32). -/
abbrev Byte := BitVec 8

end Sys2Proof
end

