-- ==== Sys2Proof/Syntax.lean ====
section
/-! DEFINITION. The command set: one constructor per row of spec/opcode_table.json (30_encoding.md R59). -/

namespace Sys2Proof

/-- A command with the operands its rule lists (30_encoding.md R58). Bits of the word that a command does not list are
ignored by the block, so they are no part of the command. -/
inductive Instr where
  | nop
  | edge (t : Timestamp)
  | clear
  | getAddress
  | getCommand
  | getPair
  | getStatus
  | getFrame
  | getCounters
  | unwrap (earlier later : Timestamp)
  | classify (iv : Interval)
  | decode (f : Frame)
deriving DecidableEq, Repr

end Sys2Proof
end

