-- ==== Sys2Proof/Config.lean ====
section
/-! DEFINITION. The instance parameters of the block (00_scope.md R5 to R11) and the timing bands they define. -/

namespace Sys2Proof

/-- The pair stride `S`, which is 1 or 2 (00_scope.md R8). -/
inductive Stride where
  | one
  | two
deriving DecidableEq, Repr

/-- `S` as a number. -/
def Stride.toNat : Stride → Nat
  | .one => 1
  | .two => 2

/-- The timing bands a pulse interval is classified into (30_encoding.md R60). -/
inductive Band where
  | invalid
  | sync
  | repeatMarker
  | bit0
  | bit1
deriving DecidableEq, Repr

/-- The instance parameters (00_scope.md R5): a model takes them as an argument of the machine, and no command
changes them. Any threshold value in `[0, 65535]` is legal (R9). -/
structure Params where
  /-- `M`, the counter modulus (R6). -/
  m : Nat
  /-- `S`, the pair stride (R8). -/
  stride : Stride
  syncLo : Interval
  syncHi : Interval
  repLo : Interval
  repHi : Interval
  b0Lo : Interval
  b0Hi : Interval
  b1Lo : Interval
  b1Hi : Interval
  /-- `TICK` in nanoseconds: informational, "No rule reads it" (R11). -/
  tickNs : Nat
deriving DecidableEq, Repr

/-- A legal instance: `2 <= M <= 65536` (R6). The stride and the thresholds are legal by their types (R8, R9). -/
abbrev Params.wf (p : Params) : Prop := 2 ≤ p.m ∧ p.m ≤ 65536

/-- The default instance: `M = 65536` (R6), `S = 2` (R8), the strict threshold table (R10) at 1 tick = 1 µs (R11). -/
def Params.default : Params where
  m := 65536
  stride := .two
  syncLo := 13300#16
  syncHi := 13700#16
  repLo := 11000#16
  repHi := 12500#16
  b0Lo := 1000#16
  b0Hi := 1300#16
  b1Lo := 2100#16
  b1Hi := 2400#16
  tickNs := 1000

/-- The loose table of R10: sync from 13000 to 15000, the other rows unchanged. -/
def Params.loose : Params :=
  { Params.default with syncLo := 13000#16, syncHi := 15000#16 }

end Sys2Proof
end

