-- ==== Sys2Proof/WellFormed.lean ====
section
/-! DEFINITION. The value checks of 30_encoding.md R58: EDGE and UNWRAP operands are timestamps below `M`. -/

namespace Sys2Proof

/-- A command is well formed for an instance when its operands pass their value checks (30_encoding.md R58); one that
is not well formed is illegal (R62). No other command has a check. -/
def Instr.wf (p : Params) : Instr → Bool
  | .edge t => decide (t.toNat < p.m)
  | .unwrap earlier later => decide (earlier.toNat < p.m) && decide (later.toNat < p.m)
  | .nop => true
  | .clear => true
  | .getAddress => true
  | .getCommand => true
  | .getPair => true
  | .getStatus => true
  | .getFrame => true
  | .getCounters => true
  | .classify _ => true
  | .decode _ => true

end Sys2Proof
end

