-- ==== Sys2Proof/Decode.lean ====
section
/-! DEFINITION. The command-word decoder, total on every 64-bit word, and the encoder (30_encoding.md R55 to R63). -/

namespace Sys2Proof

/-- Why a word is no command of the table, whatever the instance (30_encoding.md R62). -/
inductive DecodeError where
  /-- `RSV` is not 0 (R61). -/
  | reservedBits
  /-- `OPC` is not in the table of R59. -/
  | unassignedOpcode
deriving DecidableEq, Repr

/-- `OPC = w[63:56]` (R55). -/
def opcField (w : CmdWord) : BitVec 8 := w.extractLsb' 56 8

/-- `RSV = w[55:48]` (R55). -/
def rsvField (w : CmdWord) : BitVec 8 := w.extractLsb' 48 8

/-- `B = w[47:32]` (R55). -/
def bField (w : CmdWord) : BitVec 16 := w.extractLsb' 32 16

/-- `A = w[31:0]` (R55). -/
def aField (w : CmdWord) : BitVec 32 := w.extractLsb' 0 32

/-- `A[15:0]`, the operand field of EDGE, UNWRAP `earlier` and CLASSIFY (R58). -/
def aLow (w : CmdWord) : BitVec 16 := (aField w).extractLsb' 0 16

/-- The opcode of R59's table. -/
def Instr.opcode : Instr → BitVec 8
  | .nop => 0x00#8
  | .edge _ => 0x01#8
  | .clear => 0x02#8
  | .getAddress => 0x10#8
  | .getCommand => 0x11#8
  | .getPair => 0x12#8
  | .getStatus => 0x13#8
  | .getFrame => 0x14#8
  | .getCounters => 0x15#8
  | .unwrap _ _ => 0x20#8
  | .classify _ => 0x21#8
  | .decode _ => 0x22#8

/-- The row of R59 that an opcode selects, with its operands from R58. -/
def commandOf (opc : BitVec 8) (b : BitVec 16) (a : BitVec 32) : Option Instr :=
  match opc.toNat with
  | 0x00 => some .nop
  | 0x01 => some (.edge (a.extractLsb' 0 16))
  | 0x02 => some .clear
  | 0x10 => some .getAddress
  | 0x11 => some .getCommand
  | 0x12 => some .getPair
  | 0x13 => some .getStatus
  | 0x14 => some .getFrame
  | 0x15 => some .getCounters
  | 0x20 => some (.unwrap (a.extractLsb' 0 16) b)
  | 0x21 => some (.classify (a.extractLsb' 0 16))
  | 0x22 => some (.decode a)
  | _ => none

/-- The decoder (R63) but for the value checks, which need the instance: the meanings of EDGE and UNWRAP make them
first thing (R77, R97). Total: every word is a command or a named rejection. -/
def decode (w : CmdWord) : Except DecodeError Instr :=
  if rsvField w = 0#8 then
    match commandOf (opcField w) (bField w) (aField w) with
    | some i => .ok i
    | none => .error .unassignedOpcode
  else .error .reservedBits

/-- The whole decoder of R63, value checks included: `none` is `ILLEGAL`. -/
def decodeLegal (p : Params) (w : CmdWord) : Option Instr :=
  match decode w with
  | .ok i => if i.wf p then some i else none
  | .error _ => none

/-- The operand `B` of an encoded command (R58, R64). -/
def Instr.operandB : Instr → BitVec 16
  | .unwrap _ later => later
  | .nop | .edge _ | .clear | .getAddress | .getCommand | .getPair | .getStatus | .getFrame
  | .getCounters | .classify _ | .decode _ => 0#16

/-- The operand `A` of an encoded command (R58, R64). -/
def Instr.operandA : Instr → BitVec 32
  | .edge t => t.setWidth 32
  | .unwrap earlier _ => earlier.setWidth 32
  | .classify iv => iv.setWidth 32
  | .decode f => f
  | .nop | .clear | .getAddress | .getCommand | .getPair | .getStatus | .getFrame | .getCounters => 0#32

/-- The encoder: each operand in its field of R58 and every other bit 0 (R55, R64). -/
def encode (i : Instr) : CmdWord := i.opcode ++ 0#8 ++ i.operandB ++ i.operandA

/-- The command the decoder reads from a word given by its table bits: a command word is 64 bits and moves as a whole
(20_memory.md R43), so the table's bit numbers are the word's own. -/
def decodeTableWord (nbits w : Nat) : Option Instr :=
  match decode (BitVec.ofNat 64 (w % 2 ^ nbits)) with
  | .ok i => some i
  | .error _ => none

end Sys2Proof
end

