-- ==== Sys2Proof/Machine/State.lean ====
section
/-! DEFINITION. The state of the block (10_state.md R16), the port it is driven through, and its reset (R39). -/

namespace Sys2Proof.Machine

/-- `ST`, the assembler state (10_state.md R19). -/
inductive AsmState where
  | hunt
  | frame
deriving DecidableEq, Repr

/-- `RES.KIND` (10_state.md R26). Codes 5, 6 and 7 are reserved and never written, so they have no constructor. -/
inductive ResultKind where
  | needMoreData
  | syncFound
  | repeatCode
  | frame
  | desync
deriving DecidableEq, Repr

/-- `RES.REASON` (10_state.md R27). Code 3 is reserved and never written. -/
inductive DesyncReason where
  | none
  | invalidInterval
  | repeatInFrame
deriving DecidableEq, Repr

/-- The triple `(a, c, m)` of the validator (41_packet_validator.md R84). -/
structure Decoded where
  addr : Byte
  cmd : Byte
  mask : BitVec 2
deriving DecidableEq, Repr

/-- The four outputs of the publish port (10_state.md R36). -/
structure PubPort where
  pubAddr : Byte
  pubCmd : Byte
  pubValid : Bool
  pubRes : Byte
deriving DecidableEq, Repr

/-- What the driver presents to the block for one step (60_exceptions.md R111): the level of the reset input
(70_reset_and_hazards.md R116) and the command word on the command port, if there is one. -/
structure PortSlot where
  reset : Bool
  command : Option CmdWord
deriving DecidableEq, Repr

/-- How the block reads a slot: reset has priority over a command (60_exceptions.md R106). -/
inductive Offer where
  | idle
  | reset
  | command (w : CmdWord)
deriving DecidableEq, Repr

/-- No fault exists: the block has no traps and never halts (60_exceptions.md R100, R112). Nothing raises one, so the
type has no constructor (safe: nothing stops; log entry 12). -/
inductive Fault
deriving DecidableEq, Repr

/-- The refusals of the model. -/
inductive Refusal where
  /-- Raised by `exec` for a command that has no meaning yet; no arm raises it now (safe). -/
  | notModelled (mnemonic : String)
deriving DecidableEq, Repr

/-- The block's registers (10_state.md R16), under the spec's names, and three fields of the model's own: `cfg` (the
instance parameters, log entry 1), `inputs` (what the driver will present, log entry 3) and `resp` (what the last step
answered, log entry 4). -/
structure State where
  /-- The instance parameters (00_scope.md R5). They are not the block's state, and no step writes them. -/
  cfg : Params
  /-- `ST` (R19). -/
  st : AsmState
  /-- `K`, bits classified into the current frame (R20). -/
  k : BitVec 5
  /-- `PH`, edges since the last bit boundary (R21). -/
  ph : BitVec 1
  /-- `HC`, the number of valid entries of the window (R22). -/
  hc : BitVec 2
  /-- `W[0]`, the oldest window entry (R23). -/
  w0 : Timestamp
  /-- `W[1]`, which exists only when `S = 2` (R23); no step of an `S = 1` instance reads or writes it (log entry 6). -/
  w1 : Timestamp
  /-- `FR`, the raw frame accumulator (R24). -/
  fr : Frame
  /-- `RES`, the outcome of the most recent legal EDGE (R25). -/
  res : Byte
  /-- `LAST_ADDR` (R31). -/
  lastAddr : Byte
  /-- `LAST_CMD` (R31). -/
  lastCmd : Byte
  /-- `HAVE_LAST` (R31). -/
  haveLast : Bool
  /-- `CMD_ERR` (R30). -/
  cmdErr : Bool
  /-- `OK_CNT` (R32). -/
  okCnt : Byte
  /-- `CSUM_CNT` (R32). -/
  csumCnt : Byte
  /-- `DESYNC_CNT` (R32). -/
  desyncCnt : Byte
  /-- `REPEAT_CNT` (R32). -/
  repeatCnt : Byte
  /-- The slots the driver will present, oldest first. -/
  inputs : List PortSlot
  /-- The response word of the last step (30_encoding.md R56); `none` when the last step took no command. -/
  resp : Option RespWord
deriving DecidableEq, Repr

/-- The reset state of an instance (10_state.md R39), with nothing presented yet. R39 gives `W` no value; the zeros of
`w0` and `w1` are the model's (log entry 5, DESIGN CHOICE) and cannot be observed. -/
def State.resetOf (p : Params) : State where
  cfg := p
  st := .hunt
  k := 0#5
  ph := 0#1
  hc := 0#2
  w0 := 0#16
  w1 := 0#16
  fr := 0#32
  res := 0#8
  lastAddr := 0#8
  lastCmd := 0#8
  haveLast := false
  cmdErr := false
  okCnt := 0#8
  csumCnt := 0#8
  desyncCnt := 0#8
  repeatCnt := 0#8
  inputs := []
  resp := none

/-- The default instance right after reset (10_state.md R39, 00_scope.md R6, R8, R10). -/
def State.reset : State := State.resetOf Params.default

end Sys2Proof.Machine
end

