-- ==== Sys2Proof/Machine/Flags.lean ====
section
/-! DEFINITION. The result register, the codes of the result, reason and band names, and the read-only views STATUS,
PAIR, COUNTERS and the publish port (10_state.md R25 to R29, R33 to R36; 30_encoding.md R60). -/

namespace Sys2Proof.Machine

/-- `ST` as its bit: 0 = HUNT, 1 = FRAME (10_state.md R16). -/
def AsmState.bit : AsmState → BitVec 1
  | .hunt => 0#1
  | .frame => 1#1

/-- `RES.KIND` codes (10_state.md R26). -/
def ResultKind.code : ResultKind → BitVec 3
  | .needMoreData => 0#3
  | .syncFound => 1#3
  | .repeatCode => 2#3
  | .frame => 3#3
  | .desync => 4#3

/-- `RES.REASON` codes (10_state.md R27). -/
def DesyncReason.code : DesyncReason → BitVec 2
  | .none => 0#2
  | .invalidInterval => 1#2
  | .repeatInFrame => 2#2

/-- Band codes (30_encoding.md R60). -/
def bandCode : Band → BitVec 3
  | .invalid => 0#3
  | .sync => 1#3
  | .repeatMarker => 2#3
  | .bit0 => 3#3
  | .bit1 => 4#3

/-- `RES = {PUB, CSUM[1:0], REASON[1:0], KIND[2:0]}` (10_state.md R25, 40_frame_assembler.md R77). -/
def packRes (kind : ResultKind) (reason : DesyncReason) (csum : BitVec 2) (pub : Bool) : Byte :=
  BitVec.ofBool pub ++ csum ++ reason.code ++ kind.code

/-- The `RES` of an EDGE that measures nothing, skips a candidate or stores a bit: `NEED_MORE_DATA`, all else 0. -/
def resNeedMoreData : Byte := packRes .needMoreData .none 0#2 false

/-- `RES[2:0]`, `KIND` (10_state.md R25). -/
def resKind (r : Byte) : BitVec 3 := r.extractLsb' 0 3

/-- `RES[4:3]`, `REASON` (10_state.md R25). -/
def resReason (r : Byte) : BitVec 2 := r.extractLsb' 3 2

/-- `RES[6:5]`, `CSUM` (10_state.md R25). -/
def resCsum (r : Byte) : BitVec 2 := r.extractLsb' 5 2

/-- `RES[7]`, `PUB` (10_state.md R25). -/
def resPub (r : Byte) : Bool := r.getLsbD 7

/-- The STATUS word (10_state.md R33): `{CMD_ERR, HAVE_LAST, HC, PH, K, ST, RES}`, zero-extended. -/
def State.statusWord (s : State) : RespWord :=
  (BitVec.ofBool s.cmdErr ++ BitVec.ofBool s.haveLast ++ s.hc ++ s.ph ++ s.k ++ s.st.bit ++ s.res).setWidth 32

/-- The PAIR word (10_state.md R34): `{HAVE_LAST, LAST_CMD, LAST_ADDR}`, zero-extended. -/
def State.pairWord (s : State) : RespWord :=
  (BitVec.ofBool s.haveLast ++ s.lastCmd ++ s.lastAddr).setWidth 32

/-- The COUNTERS word (10_state.md R35): `{REPEAT_CNT, DESYNC_CNT, CSUM_CNT, OK_CNT}`. -/
def State.countersWord (s : State) : RespWord :=
  s.repeatCnt ++ s.desyncCnt ++ s.csumCnt ++ s.okCnt

/-- The response of DECODE (41_packet_validator.md R89): `{m, c, a}`, zero-extended. -/
def Decoded.word (d : Decoded) : RespWord := (d.mask ++ d.cmd ++ d.addr).setWidth 32

/-- The publish port, the registers' values between steps (10_state.md R36). Reading it changes nothing. -/
def State.pub (s : State) : PubPort where
  pubAddr := s.lastAddr
  pubCmd := s.lastCmd
  pubValid := s.haveLast
  pubRes := s.res

end Sys2Proof.Machine
end

