-- ==== Sys2Proof/Machine/Operands.lean ====
section
/-! DEFINITION. Operand checks, the anchor and the window entries as the rules read them. Commands take their operands
from the word (30_encoding.md R58); the one stored operand is the timestamp window (10_state.md R22, R23). -/

namespace Sys2Proof.Machine

/-- The value check of 30_encoding.md R58: a timestamp operand is legal iff it is below `M`. -/
def timestampLegal (p : Params) (t : Timestamp) : Bool := decide (t.toNat < p.m)

/-- `W[0]`, from which every interval is measured (40_frame_assembler.md R69). -/
def State.anchor (s : State) : Timestamp := s.w0

/-- Window entry `W[j]` as 10_state.md R22 and R23 give it: entries `W[S-HC]` to `W[S-1]` are valid, and every other
entry holds no value. -/
def State.entry? (s : State) (j : Nat) : Option Timestamp :=
  if s.cfg.stride.toNat - s.hc.toNat ≤ j ∧ j < s.cfg.stride.toNat then
    (if j = 0 then some s.w0 else some s.w1)
  else none

end Sys2Proof.Machine
end

