-- ==== Sys2Proof/Machine/Ops.lean ====
section
/-! DEFINITION. The shared operations of the block: the three pure functions (40_frame_assembler.md R67, R68;
41_packet_validator.md R84), the illegal-command path (60_exceptions.md R103), reset (70_reset_and_hazards.md R116),
the command port, and the parts of an EDGE (40_frame_assembler.md R69 to R76). The block has no memory (20_memory.md R40). -/

namespace Sys2Proof.Machine

/-! ### Pure functions -/

/-- `unwrap(earlier, later) = (later - earlier) mod M` over the integers (40_frame_assembler.md R67). -/
def unwrapInterval (p : Params) (earlier later : Timestamp) : Interval :=
  BitVec.ofInt 16 (((later.toNat : Int) - (earlier.toNat : Int)) % (p.m : Int))

/-- A band holds its two bounds; one with `LO > HI` is empty (40_frame_assembler.md R68, 00_scope.md R9). -/
def inBand (lo hi iv : Interval) : Bool := decide (lo.toNat ≤ iv.toNat) && decide (iv.toNat ≤ hi.toNat)

/-- `classify(iv)`: the first matching line wins (40_frame_assembler.md R68). -/
def classifyInterval (p : Params) (iv : Interval) : Band :=
  if inBand p.syncLo p.syncHi iv then .sync
  else if inBand p.repLo p.repHi iv then .repeatMarker
  else if inBand p.b0Lo p.b0Hi iv then .bit0
  else if inBand p.b1Lo p.b1Hi iv then .bit1
  else .invalid

/-- `decode(f) = (a, c, m)`: four bytes in arrival order, and one mask bit per failed complement check
(41_packet_validator.md R82 to R84). It reads no state and no parameter (R85). -/
def decodeFrame (f : Frame) : Decoded :=
  let a := f.extractLsb' 0 8
  let na := f.extractLsb' 8 8
  let c := f.extractLsb' 16 8
  let nc := f.extractLsb' 24 8
  { addr := a
    cmd := c
    mask := BitVec.ofBool (c ^^^ nc != 0xFF#8) ++ BitVec.ofBool (a ^^^ na != 0xFF#8) }

/-! ### The ports and the whole-machine events -/

/-- What the driver presents to the next step; an empty list is a driver that presents nothing. -/
def State.offered (s : State) : Offer :=
  match s.inputs with
  | [] => .idle
  | slot :: _ =>
    if slot.reset then .reset
    else match slot.command with
      | none => .idle
      | some w => .command w

/-- The slot has been presented. -/
def State.take (s : State) : State := { s with inputs := s.inputs.tail }

/-- The slot of a driver that issues one word. -/
def wordSlot (w : CmdWord) : PortSlot := { reset := false, command := some w }

/-- The driver issues a word before anything else it had to present. -/
def State.offerWord (s : State) (w : CmdWord) : State := { s with inputs := wordSlot w :: s.inputs }

/-- `resp <- v` (00_scope.md R14). -/
def State.respond (s : State) (v : RespWord) : State := { s with resp := some v }

/-- Between commands the block holds its state (60_exceptions.md R105, R115), and there is no response. -/
def State.idle (s : State) : State := { s with resp := none }

/-- Reset: every register at its reset value, no parameter changed, and no response to a command in flight
(70_reset_and_hazards.md R116). -/
def State.restart (s : State) : State := { State.resetOf s.cfg with inputs := s.inputs }

/-- The step of an illegal command: `CMD_ERR <- 1; resp <- 0`, and nothing else (60_exceptions.md R103). It is what
stands in this block where other hardware enters an exception; there is no return from it (R101). -/
def State.illegalCommand (s : State) : State := { s with cmdErr := true, resp := some 0#32 }

/-! ### The parts of an EDGE -/

/-- The interval an EDGE measures, if any (40_frame_assembler.md R69): in HUNT when `HC = S`, in FRAME on a boundary
edge. In FRAME the test of R77 reads `PH` alone (log entry 7). -/
def State.measured (s : State) (t : Timestamp) : Option Interval :=
  match s.st with
  | .hunt => if s.hc.toNat = s.cfg.stride.toNat then some (unwrapInterval s.cfg s.anchor t) else none
  | .frame => if s.ph.toNat = s.cfg.stride.toNat - 1 then some (unwrapInterval s.cfg s.anchor t) else none

/-- `PH` after the edge (40_frame_assembler.md R72, R77): one more edge inside a bit interval, 0 on a boundary edge and
in HUNT. -/
def State.nextPhase (s : State) : BitVec 1 :=
  match s.st with
  | .hunt => 0#1
  | .frame => if s.ph.toNat = s.cfg.stride.toNat - 1 then 0#1 else s.ph + 1#1

/-- `W[0]` after the shift (40_frame_assembler.md R70). -/
def State.shiftedW0 (s : State) (t : Timestamp) : Timestamp :=
  match s.cfg.stride with
  | .one => t
  | .two => s.w1

/-- `W[1]` after the shift (40_frame_assembler.md R70); it does not exist when `S = 1`. -/
def State.shiftedW1 (s : State) (t : Timestamp) : Timestamp :=
  match s.cfg.stride with
  | .one => s.w1
  | .two => t

/-- `min(HC + 1, S)` (40_frame_assembler.md R70). -/
def State.shiftedHc (s : State) : BitVec 2 := BitVec.ofNat 2 (min (s.hc.toNat + 1) s.cfg.stride.toNat)

/-- Every legal EDGE shifts its timestamp into the window and moves the phase on (40_frame_assembler.md R70, R72). -/
def State.shiftWindow (s : State) (t : Timestamp) : State :=
  { s with w0 := s.shiftedW0 t, w1 := s.shiftedW1 t, hc := s.shiftedHc, ph := s.nextPhase }

/-- `RES <- r`. -/
def State.setRes (s : State) (r : Byte) : State := { s with res := r }

/-- A sync starts a frame, or restarts it (40_frame_assembler.md R71, R74). -/
def State.startFrame (s : State) : State :=
  { s with st := .frame, k := 0#5, ph := 0#1, fr := 0#32, res := packRes .syncFound .none 0#2 false }

/-- A repeat code empties the window and republishes the pair if there is one (40_frame_assembler.md R71,
41_packet_validator.md R88). -/
def State.repeatCode (s : State) : State :=
  { s with hc := 0#2, repeatCnt := s.repeatCnt + 1#8, res := packRes .repeatCode .none 0#2 s.haveLast }

/-- An in-frame `Invalid` or `RepeatMarker` aborts the frame; the window and `FR` are kept (40_frame_assembler.md R75). -/
def State.desync (s : State) (reason : DesyncReason) : State :=
  { s with st := .hunt, k := 0#5, ph := 0#1, desyncCnt := s.desyncCnt + 1#8, res := packRes .desync reason 0#2 false }

/-- `FR` with bit `b` stored at position `K` (40_frame_assembler.md R73). -/
def State.withBit (s : State) (b : Bool) : Frame :=
  (s.fr &&& ~~~(1#32 <<< s.k.toNat)) ||| ((BitVec.ofBool b).setWidth 32 <<< s.k.toNat)

/-- A bit that does not complete the frame (40_frame_assembler.md R73). -/
def State.keepBit (s : State) (fr : Frame) : State :=
  { s with fr := fr, k := s.k + 1#5, res := resNeedMoreData }

/-- The end of a frame, valid or not: the window is discarded and `FR` keeps the frame (40_frame_assembler.md R76). -/
def State.endFrame (s : State) (fr : Frame) (r : Byte) : State :=
  { s with st := .hunt, k := 0#5, ph := 0#1, hc := 0#2, fr := fr, res := r }

/-- Publishing a valid packet (41_packet_validator.md R86). -/
def State.publish (s : State) (d : Decoded) : State :=
  { s with lastAddr := d.addr, lastCmd := d.cmd, haveLast := true, okCnt := s.okCnt + 1#8 }

/-- A frame that failed the checksum is counted and discarded (41_packet_validator.md R87). -/
def State.reject (s : State) : State := { s with csumCnt := s.csumCnt + 1#8 }

/-- The 32nd bit completes the frame (40_frame_assembler.md R76): the validator decides between publishing
(41_packet_validator.md R86) and discarding (R87). -/
def State.completeFrame (s : State) (fr : Frame) : State :=
  let d := decodeFrame fr
  if d.mask = 0#2 then (s.endFrame fr (packRes .frame .none d.mask true)).publish d
  else (s.endFrame fr (packRes .frame .none d.mask false)).reject

/-- A boundary edge whose interval is a bit (40_frame_assembler.md R73, R76). -/
def State.acceptBit (s : State) (b : Bool) : State :=
  if s.k = 31#5 then s.completeFrame (s.withBit b) else s.keepBit (s.withBit b)

/-- What a measured interval does in HUNT (40_frame_assembler.md R71). -/
def State.actHunt (s : State) : Band → State
  | .sync => s.startFrame
  | .repeatMarker => s.repeatCode
  | .bit0 => s.setRes resNeedMoreData
  | .bit1 => s.setRes resNeedMoreData
  | .invalid => s.setRes resNeedMoreData

/-- What a measured interval does in FRAME (40_frame_assembler.md R72). -/
def State.actFrame (s : State) : Band → State
  | .bit0 => s.acceptBit false
  | .bit1 => s.acceptBit true
  | .sync => s.startFrame
  | .repeatMarker => s.desync .repeatInFrame
  | .invalid => s.desync .invalidInterval

/-- What a measured interval does. -/
def State.act (s : State) (b : Band) : State :=
  match s.st with
  | .hunt => s.actHunt b
  | .frame => s.actFrame b

/-- The registers after a legal EDGE (40_frame_assembler.md R77). The parts read only registers that the shift leaves
alone, so they read their values at the start of the command (00_scope.md R14). -/
def State.afterEdge (s : State) (t : Timestamp) : State :=
  match s.measured t with
  | none => (s.shiftWindow t).setRes resNeedMoreData
  | some iv => (s.shiftWindow t).act (classifyInterval s.cfg iv)

/-- A legal EDGE answers the STATUS word of the state after the step (40_frame_assembler.md R77, 10_state.md R33). -/
def State.takeEdge (s : State) (t : Timestamp) : State := (s.afterEdge t).respond (s.afterEdge t).statusWord

end Sys2Proof.Machine
end

