-- ==== Sys2Proof/Machine/FrameAssembler.lean ====
section
/-! DEFINITION. The commands of the frame assembler: EDGE and CLEAR (40_frame_assembler.md R77, R78). -/

namespace Sys2Proof.Machine

/-- EDGE `t` (40_frame_assembler.md R77): illegal if `t >= M` (60_exceptions.md R103), else one timestamp is taken. -/
def execEdge (t : Timestamp) (s : State) : Host.Outcome State Fault Refusal :=
  if timestampLegal s.cfg t then .next (s.takeEdge t) else .next s.illegalCommand

/-- CLEAR (40_frame_assembler.md R78): the assembler's working state is cleared and the published pair is kept. -/
def execClear (s : State) : Host.Outcome State Fault Refusal :=
  .next ({ s with st := .hunt, k := 0#5, ph := 0#1, hc := 0#2, fr := 0#32, res := 0#8 }.respond 0#32)

end Sys2Proof.Machine
end

