-- ==== Sys2Proof/Machine/PacketValidator.lean ====
section
/-! DEFINITION. The command of the packet validator: DECODE (41_packet_validator.md R89). -/

namespace Sys2Proof.Machine

/-- DECODE `f` (41_packet_validator.md R89): the validator applied to an operand; no register is read or written. -/
def execDecode (f : Frame) (s : State) : Host.Outcome State Fault Refusal :=
  .next (s.respond (decodeFrame f).word)

end Sys2Proof.Machine
end

