-- ==== Sys2Proof/Machine/Readout.lean ====
section
/-! DEFINITION. NOP, the readout commands and the test commands UNWRAP and CLASSIFY (42_readout_and_test.md R90 to R98). -/

namespace Sys2Proof.Machine

/-- NOP (42_readout_and_test.md R90). -/
def execNop (s : State) : Host.Outcome State Fault Refusal := .next (s.respond 0#32)

/-- GET_ADDRESS (42_readout_and_test.md R91). -/
def execGetAddress (s : State) : Host.Outcome State Fault Refusal := .next (s.respond (s.lastAddr.setWidth 32))

/-- GET_COMMAND (42_readout_and_test.md R92). -/
def execGetCommand (s : State) : Host.Outcome State Fault Refusal := .next (s.respond (s.lastCmd.setWidth 32))

/-- GET_PAIR (42_readout_and_test.md R93). -/
def execGetPair (s : State) : Host.Outcome State Fault Refusal := .next (s.respond s.pairWord)

/-- GET_STATUS (42_readout_and_test.md R94). -/
def execGetStatus (s : State) : Host.Outcome State Fault Refusal := .next (s.respond s.statusWord)

/-- GET_FRAME (42_readout_and_test.md R95). -/
def execGetFrame (s : State) : Host.Outcome State Fault Refusal := .next (s.respond s.fr)

/-- GET_COUNTERS (42_readout_and_test.md R96). -/
def execGetCounters (s : State) : Host.Outcome State Fault Refusal := .next (s.respond s.countersWord)

/-- UNWRAP `earlier, later` (42_readout_and_test.md R97): illegal if an operand is `>= M` (60_exceptions.md R103). -/
def execUnwrap (earlier later : Timestamp) (s : State) : Host.Outcome State Fault Refusal :=
  if timestampLegal s.cfg earlier && timestampLegal s.cfg later then
    .next (s.respond ((unwrapInterval s.cfg earlier later).setWidth 32))
  else .next s.illegalCommand

/-- CLASSIFY `iv` (42_readout_and_test.md R98): every 16-bit value is legal, also one `>= M`. -/
def execClassify (iv : Interval) (s : State) : Host.Outcome State Fault Refusal :=
  .next (s.respond ((bandCode (classifyInterval s.cfg iv)).setWidth 32))

end Sys2Proof.Machine
end

