-- ==== Sys2Proof/Machine/Dispatch.lean ====
section
/-! DEFINITION. The dispatch: one arm per command, each one call of its meaning. -/

namespace Sys2Proof.Machine

def exec (i : Instr) (s : State) : Host.Outcome State Fault Refusal :=
  match i with
  | .nop => Sys2Proof.Machine.execNop s
  | .edge t => Sys2Proof.Machine.execEdge t s
  | .clear => Sys2Proof.Machine.execClear s
  | .getAddress => Sys2Proof.Machine.execGetAddress s
  | .getCommand => Sys2Proof.Machine.execGetCommand s
  | .getPair => Sys2Proof.Machine.execGetPair s
  | .getStatus => Sys2Proof.Machine.execGetStatus s
  | .getFrame => Sys2Proof.Machine.execGetFrame s
  | .getCounters => Sys2Proof.Machine.execGetCounters s
  | .unwrap earlier later => Sys2Proof.Machine.execUnwrap earlier later s
  | .classify iv => Sys2Proof.Machine.execClassify iv s
  | .decode f => Sys2Proof.Machine.execDecode f s

end Sys2Proof.Machine
end

