-- ==== Sys2Proof/Machine/Step.lean ====
section
/-! DEFINITION. One step of the block (00_scope.md R15): it reads what the driver presents, and a command word that the
decoder accepts is executed by `exec`, any other word by the illegal-command path. -/

namespace Sys2Proof.Machine

/-- One step. Nothing presented: the block holds its state (60_exceptions.md R105, R115). Reset asserted: every register
takes its reset value (70_reset_and_hazards.md R116). A word: its command, or the illegal-command path (R103). -/
def step (s : State) : Host.Outcome State Fault Refusal :=
  match s.offered with
  | .idle => .next s.take.idle
  | .reset => .next s.take.restart
  | .command w =>
    match decode w with
    | .ok i => exec i s.take
    | .error _ => .next s.take.illegalCommand

/-- The state whose next step takes the given command word from the command port: the driver presents it first. -/
def State.withFetchWord (s : State) (nbits w : Nat) : State := s.offerWord (BitVec.ofNat 64 (w % 2 ^ nbits))

end Sys2Proof.Machine
end

