-- ==== Sys2Proof/Machine/Assembler.lean ====
section
/-! DEFINITION. The assembler of the command set: one line per command (30_encoding.md R64) and the pseudo-instructions
(R65). It is no part of the block; it says which words a source line stands for. -/

namespace Sys2Proof

/-- The pseudo-instructions (30_encoding.md R65). -/
inductive Pseudo where
  | resync
  | getAddress
  | getCommand
  | edges (ts : List Timestamp)
  | assemble (ts : List Timestamp)
deriving DecidableEq, Repr

/-- The expansions of R65: `ASSEMBLE` issues the same commands as `EDGES` and differs in the response the driver keeps
(Sys2Proof.Machine.keptResponse). -/
def Pseudo.expand : Pseudo → List Instr
  | .resync => [.clear]
  | .getAddress => [.getAddress]
  | .getCommand => [.getCommand]
  | .edges ts => ts.map Instr.edge
  | .assemble ts => ts.map Instr.edge

namespace Asm

def isBlank (c : Char) : Bool := c == ' ' || c == '\t'

/-- Both ends without blanks. -/
def trim (cs : List Char) : List Char := ((cs.dropWhile isBlank).reverse.dropWhile isBlank).reverse

/-- `;` starts a comment (R64). -/
def stripComment (cs : List Char) : List Char := cs.takeWhile (· != ';')

/-- Operands are separated by commas (R64). -/
def splitCommas : List Char → List (List Char)
  | [] => [[]]
  | c :: cs =>
    if c == ',' then [] :: splitCommas cs
    else match splitCommas cs with
      | [] => [[c]]
      | h :: t => (c :: h) :: t

/-- The value of a digit in base 16. -/
def digit (c : Char) : Option Nat :=
  let n := c.toNat
  if 48 ≤ n ∧ n ≤ 57 then some (n - 48)
  else if 65 ≤ n ∧ n ≤ 70 then some (n - 55)
  else if 97 ≤ n ∧ n ≤ 102 then some (n - 87)
  else none

/-- Digits of a base, most significant first, read on from an accumulator. -/
def digits (base : Nat) : List Char → Nat → Option Nat
  | [], acc => some acc
  | c :: cs, acc =>
    match digit c with
    | some d => if d < base then digits base cs (acc * base + d) else none
    | none => none

/-- A decimal literal or a `0x` hexadecimal literal (R64). -/
def literal : List Char → Option Nat
  | [] => none
  | ['0', 'x'] => none
  | '0' :: 'x' :: cs => digits 16 cs 0
  | cs => digits 10 cs 0

/-- A literal that fits an operand field of `n` bits (R58). -/
def operand (n : Nat) (cs : List Char) : Option (BitVec n) :=
  match literal (trim cs) with
  | some v => if v < 2 ^ n then some (BitVec.ofNat n v) else none
  | none => none

/-- A list of timestamps, for `EDGES` and `ASSEMBLE` (R65). -/
def timestamps : List (List Char) → Option (List Timestamp)
  | [] => some []
  | c :: cs =>
    match operand 16 c, timestamps cs with
    | some t, some ts => some (t :: ts)
    | _, _ => none

/-- The commands a mnemonic and its operands stand for (R64, R65). DESIGN CHOICE (log entry 15, safe): R65 writes `EDGES`
and `ASSEMBLE` with operands `t1` to `tn` and does not say whether there may be none; here a line with none is read and
stands for no command. -/
def command (name : String) (ops : List (List Char)) : Option (List Instr) :=
  match name, ops with
  | "NOP", [] => some [.nop]
  | "EDGE", [t] => (operand 16 t).map fun v => [.edge v]
  | "CLEAR", [] => some [.clear]
  | "GET_ADDRESS", [] => some [.getAddress]
  | "GET_COMMAND", [] => some [.getCommand]
  | "GET_PAIR", [] => some [.getPair]
  | "GET_STATUS", [] => some [.getStatus]
  | "GET_FRAME", [] => some [.getFrame]
  | "GET_COUNTERS", [] => some [.getCounters]
  | "UNWRAP", [e, l] =>
    match operand 16 e, operand 16 l with
    | some ve, some vl => some [.unwrap ve vl]
    | _, _ => none
  | "CLASSIFY", [iv] => (operand 16 iv).map fun v => [.classify v]
  | "DECODE", [f] => (operand 32 f).map fun v => [.decode v]
  | "RESYNC", [] => some (Pseudo.expand .resync)
  | "getAddress", [] => some (Pseudo.expand .getAddress)
  | "getCommand", [] => some (Pseudo.expand .getCommand)
  | "EDGES", _ => (timestamps ops).map fun ts => Pseudo.expand (.edges ts)
  | "ASSEMBLE", _ => (timestamps ops).map fun ts => Pseudo.expand (.assemble ts)
  | _, _ => none

/-- One line: the mnemonic, then its operands separated by commas (R64). An empty line gives no command, and a line that
is not of that form gives `none`. -/
def line (cs : List Char) : Option (List Instr) :=
  let body := trim (stripComment cs)
  let name := body.takeWhile (fun c => !isBlank c)
  let rest := trim (body.dropWhile (fun c => !isBlank c))
  if body.isEmpty then some []
  else command (String.ofList name) (if rest.isEmpty then [] else splitCommas rest)

/-- A hexadecimal digit as a listing writes it. -/
def hexDigit (n : Nat) : Char := Char.ofNat (if n < 10 then 48 + n else 55 + n)

/-- "A listing writes each word as 16 hexadecimal digits" (R64). -/
def listing (w : CmdWord) : List Char :=
  (List.range 16).map fun j => hexDigit (w.toNat / 16 ^ (15 - j) % 16)

end Asm

end Sys2Proof
end

