-- ==== Sys2Proof/Machine/Driver.lean ====
section
/-! DEFINITION. The driver's side of the command port: the slots it presents, the captured timestamps it issues
(20_memory.md R53) and the source's `assemble()` over EDGE commands (30_encoding.md R65, 40_frame_assembler.md R79). It is
no part of the block, and `step` does not use it. -/

namespace Sys2Proof.Machine

/-- The slot in which the driver issues a command. -/
def issue (i : Instr) : PortSlot := wordSlot (encode i)

/-- The driver will present these commands, one a step, before anything else it had to present. -/
def State.issueAll (s : State) (is : List Instr) : State := { s with inputs := is.map issue ++ s.inputs }

/-- The counter value captured at a true time, reduced into `[0, M)` (20_memory.md R53). -/
def captured (p : Params) (time : Nat) : Timestamp := BitVec.ofNat 16 (time % p.m)

/-- `KIND != NEED_MORE_DATA` in the STATUS word an EDGE answered (10_state.md R25, R33). -/
def isResult (r : RespWord) : Bool := r.extractLsb' 0 3 != 0#3

/-- The response the driver keeps of `ASSEMBLE` (30_encoding.md R65): the last response whose `KIND != NEED_MORE_DATA`,
or the last response if there is none. DESIGN CHOICE (log entry 15, safe): an `ASSEMBLE` of no timestamp has no response,
and the driver keeps none. -/
def keptResponse (rs : List RespWord) : Option RespWord :=
  match (rs.filter isResult).getLast? with
  | some r => some r
  | none => rs.getLast?

/-- What one call of `assemble()` leaves: its result (`none` is `NeedMoreData`), the timestamps still queued, the block. -/
structure AssembleCall where
  result : Option RespWord
  queue : List Timestamp
  state : State
deriving DecidableEq, Repr

/-- The state after one EDGE command; EDGE always answers a next state. -/
def State.afterEdgeCommand (s : State) (t : Timestamp) : State :=
  match exec (.edge t) s with
  | .next u => u
  | .fault _ => s
  | .refused _ => s

/-- `assemble()` (40_frame_assembler.md R79): the driver pops timestamps one by one, issues EDGE for each, and stops at
the first response whose `KIND != NEED_MORE_DATA`. If the queue empties first, the result is `NeedMoreData`. -/
def assembleCall : List Timestamp → State → AssembleCall
  | [], s => { result := none, queue := [], state := s }
  | t :: ts, s =>
    match (s.afterEdgeCommand t).resp with
    | some r =>
      if isResult r then { result := some r, queue := ts, state := s.afterEdgeCommand t }
      else assembleCall ts (s.afterEdgeCommand t)
    | none => assembleCall ts (s.afterEdgeCommand t)

end Sys2Proof.Machine
end

