-- ==== Sys2Proof/Safety.lean ====
section
/-! DEFINITION. What claims are stated in: the invariants of 10_state.md R37, the driver's duties (60_exceptions.md R111),
and the equality of two states up to window entries that hold no value (10_state.md R23, R39). -/

namespace Sys2Proof.Machine

/-- 10_state.md R37 (1): `HC <= S` and `PH <= S - 1`. -/
abbrev State.CountsInRange (s : State) : Prop :=
  s.hc.toNat ≤ s.cfg.stride.toNat ∧ s.ph.toNat ≤ s.cfg.stride.toNat - 1

/-- 10_state.md R37 (2): `ST = HUNT` implies `K = 0` and `PH = 0`. -/
abbrev State.HuntIdle (s : State) : Prop := s.st = .hunt → s.k = 0#5 ∧ s.ph = 0#1

/-- 10_state.md R37 (3): `ST = FRAME` implies `HC = S`. -/
abbrev State.FrameAnchored (s : State) : Prop := s.st = .frame → s.hc.toNat = s.cfg.stride.toNat

/-- 10_state.md R37 (4): `KIND` is in 0 to 4, `REASON` only with DESYNC and never 3 (R27), `CSUM` only with FRAME. -/
abbrev State.ResultLegal (s : State) : Prop :=
  (resKind s.res).toNat ≤ 4 ∧ resReason s.res ≠ 3#2 ∧
  (resReason s.res ≠ 0#2 → resKind s.res = 4#3) ∧ (resCsum s.res ≠ 0#2 → resKind s.res = 3#3)

/-- 10_state.md R37 (5): `HAVE_LAST = 0` implies `LAST_ADDR = 0` and `LAST_CMD = 0`. -/
abbrev State.PairSentinel (s : State) : Prop := s.haveLast = false → s.lastAddr = 0#8 ∧ s.lastCmd = 0#8

/-- 10_state.md R16: a timestamp in the window is in `[0, M)`. -/
abbrev State.WindowLegal (s : State) : Prop :=
  (s.entry? 0).all (timestampLegal s.cfg) = true ∧ (s.entry? 1).all (timestampLegal s.cfg) = true

/-- The invariants of 10_state.md R37, the legal window of R16, and a legal instance (00_scope.md R6). -/
abbrev State.Inv (s : State) : Prop :=
  s.cfg.wf ∧ s.CountsInRange ∧ s.HuntIdle ∧ s.FrameAnchored ∧ s.ResultLegal ∧ s.PairSentinel ∧ s.WindowLegal

/-- 42_readout_and_test.md R95: in FRAME with `K = k`, bits `[31:k]` of `FR` are 0. -/
abbrev State.FrameBelowK (s : State) : Prop := s.st = .frame → s.fr.toNat < 2 ^ s.k.toNat

/-- Two states that agree on everything the rules can read: every register but the window's, and every window entry that
`HC` marks valid (10_state.md R23, R39). -/
def State.SameValid (s t : State) : Prop :=
  { s with w0 := 0#16, w1 := 0#16 } = { t with w0 := 0#16, w1 := 0#16 } ∧ ∀ j, s.entry? j = t.entry? j

/-- A driver that keeps its duties issues only legal words (60_exceptions.md R111, 92_eei_decisions.md D25). -/
abbrev PortSlot.legal (p : Params) (slot : PortSlot) : Prop :=
  slot.command.all (fun w => (decodeLegal p w).isSome) = true

/-- A safe run of the block: the invariants hold and no illegal command has been seen. The block itself never faults. -/
abbrev State.Safe (s : State) : Prop := s.Inv ∧ s.cmdErr = false ∧ ∀ slot ∈ s.inputs, slot.legal s.cfg

end Sys2Proof.Machine
end

