-- ==== Sys2Proof/Certificates/Slice0/Obligations.lean ====
section
/-! DEFINITION. The statements for the provers, and the spec's formulas they are stated with: `Sys2Proof.Spec` writes
those once, in numbers and in the rules' own flat form, without the model's operations. -/

namespace Sys2Proof.Spec

open Sys2Proof.Machine

/-! ### Fields and numbers of the spec -/

/-- `OPC = w[63:56]` (30_encoding.md R55). -/
def opc (w : CmdWord) : BitVec 8 := w.extractLsb' 56 8

/-- `RSV = w[55:48]` (30_encoding.md R55). -/
def rsv (w : CmdWord) : BitVec 8 := w.extractLsb' 48 8

/-- `A[15:0]` (30_encoding.md R58). -/
def aLow (w : CmdWord) : BitVec 16 := w.extractLsb' 0 16

/-- `A[31:0]` (30_encoding.md R58). -/
def aFull (w : CmdWord) : BitVec 32 := w.extractLsb' 0 32

/-- `B[15:0]` (30_encoding.md R58). -/
def bFull (w : CmdWord) : BitVec 16 := w.extractLsb' 32 16

/-- The opcodes of 30_encoding.md R63. -/
def opcodes : List Nat := [0x00, 0x01, 0x02, 0x10, 0x11, 0x12, 0x13, 0x14, 0x15, 0x20, 0x21, 0x22]

/-- A word is illegal if any of the three grounds of 60_exceptions.md R103 holds. -/
abbrev IllegalWord (p : Params) (w : CmdWord) : Prop :=
  rsv w ≠ 0#8 ∨ (opc w).toNat ∉ opcodes ∨
  (opc w = 0x01#8 ∧ p.m ≤ (aLow w).toNat) ∨
  (opc w = 0x20#8 ∧ (p.m ≤ (aLow w).toNat ∨ p.m ≤ (bFull w).toNat))

/-- Every word with this opcode and `RSV = 0` decodes to `i w`, whatever its unlisted bits (30_encoding.md R58, R59). -/
abbrev EncodedAs (o : BitVec 8) (i : CmdWord → Instr) : Prop :=
  ∀ w, opc w = o → rsv w = 0#8 → Sys2Proof.decode w = .ok (i w)

/-- `(later - earlier) mod M` over the integers (40_frame_assembler.md R67). -/
def interval (p : Params) (earlier later : Timestamp) : Nat :=
  (((later.toNat : Int) - (earlier.toNat : Int)) % (p.m : Int)).toNat

/-- The band code of an interval, first matching line first (40_frame_assembler.md R68, 30_encoding.md R60). -/
def bandNumber (p : Params) (iv : Nat) : Nat :=
  if p.syncLo.toNat ≤ iv ∧ iv ≤ p.syncHi.toNat then 1
  else if p.repLo.toNat ≤ iv ∧ iv ≤ p.repHi.toNat then 2
  else if p.b0Lo.toNat ≤ iv ∧ iv ≤ p.b0Hi.toNat then 3
  else if p.b1Lo.toNat ≤ iv ∧ iv ≤ p.b1Hi.toNat then 4
  else 0

/-- The band code of the interval from `W[0]` to `t` (40_frame_assembler.md R69). -/
def bandFromAnchor (s : State) (t : Timestamp) : Nat := bandNumber s.cfg (interval s.cfg s.w0 t)

/-- `S`. -/
abbrev stride (s : State) : Nat := s.cfg.stride.toNat

/-- `W[0]` after an EDGE (40_frame_assembler.md R70). -/
def w0After (s : State) (t : Timestamp) : Timestamp := if s.cfg.stride = .one then t else s.w1

/-- `W[1]` after an EDGE (40_frame_assembler.md R70): `t`, or untouched in an instance that has none. -/
def w1After (s : State) (t : Timestamp) : Timestamp := if s.cfg.stride = .one then s.w1 else t

/-- A flag as the number 0 or 1. -/
def flag (b : Bool) : Nat := if b then 1 else 0

/-- The STATUS word as a number (10_state.md R33). -/
def statusNumber (s : State) : Nat :=
  s.res.toNat + 2 ^ 8 * flag (s.st = .frame) + 2 ^ 9 * s.k.toNat + 2 ^ 14 * s.ph.toNat + 2 ^ 15 * s.hc.toNat
    + 2 ^ 17 * flag s.haveLast + 2 ^ 18 * flag s.cmdErr

/-- `RES` as a number from its four fields (10_state.md R25). -/
def resNumber (kind reason csum pub : Nat) : Nat := kind + 2 ^ 3 * reason + 2 ^ 5 * csum + 2 ^ 7 * pub

/-- The failure mask of a frame as a number: 1 for the address check, 2 for the command check (41_packet_validator.md R84). -/
def maskNumber (f : Frame) : Nat :=
  flag (f.extractLsb' 0 8 ^^^ f.extractLsb' 8 8 != 0xFF#8)
    + 2 * flag (f.extractLsb' 16 8 ^^^ f.extractLsb' 24 8 != 0xFF#8)

/-- A state with the answer 'this response and nothing else changed'. -/
abbrev answer (s : State) (r : Nat) : State := { s with resp := some (BitVec.ofNat 32 r) }

/-- The state after an illegal command (60_exceptions.md R103). -/
abbrev illegal (s : State) : State := { s with cmdErr := true, resp := some 0#32 }

/-! ### The normative pseudocode of EDGE -/

/-- An EDGE measures an interval (40_frame_assembler.md R77, `have_iv`). -/
def measures (s : State) : Bool :=
  match s.st with
  | .hunt => decide (s.hc.toNat = stride s)
  | .frame => decide (s.ph.toNat = stride s - 1)

/-- The EDGE stores a bit (40_frame_assembler.md R73). -/
def storesBit (s : State) (t : Timestamp) : Bool :=
  measures s && decide (s.st = .frame) && (bandFromAnchor s t == 3 || bandFromAnchor s t == 4)

/-- The EDGE finds a sync, in HUNT or in FRAME (40_frame_assembler.md R71, R74). -/
def findsSync (s : State) (t : Timestamp) : Bool := measures s && bandFromAnchor s t == 1

/-- The EDGE recognises a repeat code (40_frame_assembler.md R71). -/
def findsRepeat (s : State) (t : Timestamp) : Bool :=
  measures s && decide (s.st = .hunt) && bandFromAnchor s t == 2

/-- The EDGE aborts the frame (40_frame_assembler.md R75). -/
def aborts (s : State) (t : Timestamp) : Bool :=
  measures s && decide (s.st = .frame) && (bandFromAnchor s t == 0 || bandFromAnchor s t == 2)

/-- The EDGE completes the frame (40_frame_assembler.md R76). -/
def completes (s : State) (t : Timestamp) : Bool := storesBit s t && s.k == 31#5

/-- `(FR & ~(1 << K)) | (b << K)` (40_frame_assembler.md R73). -/
def storedFrame (s : State) (t : Timestamp) : Frame :=
  (s.fr &&& ~~~(1#32 <<< s.k.toNat)) ||| (BitVec.ofNat 32 (flag (bandFromAnchor s t == 4)) <<< s.k.toNat)

/-- The EDGE completes a valid frame (41_packet_validator.md R86). -/
def publishes (s : State) (t : Timestamp) : Bool := completes s t && maskNumber (storedFrame s t) == 0

/-- The EDGE completes an invalid frame (41_packet_validator.md R87). -/
def rejects (s : State) (t : Timestamp) : Bool := completes s t && maskNumber (storedFrame s t) != 0

/-- The registers after a legal EDGE, one line per register: the normative pseudocode of 40_frame_assembler.md R77 with
every register read at the start of the command (00_scope.md R14). -/
def edgeRegisters (s : State) (t : Timestamp) : State :=
  { s with
    st := if findsSync s t then .frame else if completes s t || aborts s t then .hunt else s.st
    k := if findsSync s t || completes s t || aborts s t then 0#5
         else if storesBit s t then BitVec.ofNat 5 (s.k.toNat + 1) else s.k
    ph := if s.st = .frame ∧ measures s = false then BitVec.ofNat 1 (s.ph.toNat + 1) else 0#1
    hc := if findsRepeat s t || completes s t then 0#2 else BitVec.ofNat 2 (min (s.hc.toNat + 1) (stride s))
    w0 := w0After s t
    w1 := w1After s t
    fr := if findsSync s t then 0#32 else if storesBit s t then storedFrame s t else s.fr
    res := BitVec.ofNat 8
      (if findsSync s t then resNumber 1 0 0 0
       else if findsRepeat s t then resNumber 2 0 0 (flag s.haveLast)
       else if completes s t then resNumber 3 0 (maskNumber (storedFrame s t)) (flag (publishes s t))
       else if aborts s t then resNumber 4 (if bandFromAnchor s t = 2 then 2 else 1) 0 0
       else resNumber 0 0 0 0)
    lastAddr := if publishes s t then (storedFrame s t).extractLsb' 0 8 else s.lastAddr
    lastCmd := if publishes s t then (storedFrame s t).extractLsb' 16 8 else s.lastCmd
    haveLast := if publishes s t then true else s.haveLast
    okCnt := BitVec.ofNat 8 (s.okCnt.toNat + flag (publishes s t))
    csumCnt := BitVec.ofNat 8 (s.csumCnt.toNat + flag (rejects s t))
    desyncCnt := BitVec.ofNat 8 (s.desyncCnt.toNat + flag (aborts s t))
    repeatCnt := BitVec.ofNat 8 (s.repeatCnt.toNat + flag (findsRepeat s t)) }

/-- The whole legal EDGE: its response is the STATUS word of the state after the step. -/
def edge (s : State) (t : Timestamp) : State := answer (edgeRegisters s t) (statusNumber (edgeRegisters s t))

/-! ### A well-formed frame -/

/-- `FR` for a packet: the four bytes in arrival order, each inverted byte the complement of its partner
(41_packet_validator.md R82, R83). -/
def packet (addr cmd : Byte) : Frame := ~~~cmd ++ cmd ++ ~~~addr ++ addr

/-- The timestamps of a well-formed frame `f` (40_frame_assembler.md R80): the leader from `e 0` to `e S` is a Sync, and
bit `j`, measured from `e (S + S*j)` to `e (S + S*(j+1))`, is a `Bit0` or a `Bit1` as `f[j]` says. -/
abbrev WellFormedFrame (p : Params) (f : Frame) (e : Nat → Timestamp) : Prop :=
  (∀ n, n ≤ 33 * p.stride.toNat → (e n).toNat < p.m) ∧
  bandNumber p (interval p (e 0) (e p.stride.toNat)) = 1 ∧
  ∀ j, j < 32 → bandNumber p (interval p (e (p.stride.toNat * (j + 1))) (e (p.stride.toNat * (j + 2))))
    = if f.getLsbD j then 4 else 3

/-- The first `n` timestamps as EDGE commands. -/
def edges (n : Nat) (e : Nat → Timestamp) : List Instr := (List.range n).map fun j => .edge (e j)

/-- The bits of a word that its command reads: `OPC`, `RSV` and its listed operands (30_encoding.md R58). -/
def usedBits : Instr → CmdWord
  | .edge _ => 0xFFFF00000000FFFF#64
  | .classify _ => 0xFFFF00000000FFFF#64
  | .unwrap _ _ => 0xFFFFFFFF0000FFFF#64
  | .decode _ => 0xFFFF0000FFFFFFFF#64
  | .nop => 0xFFFF000000000000#64
  | .clear => 0xFFFF000000000000#64
  | .getAddress => 0xFFFF000000000000#64
  | .getCommand => 0xFFFF000000000000#64
  | .getPair => 0xFFFF000000000000#64
  | .getStatus => 0xFFFF000000000000#64
  | .getFrame => 0xFFFF000000000000#64
  | .getCounters => 0xFFFF000000000000#64

/-- The commands that change nothing (20_memory.md R46). -/
def changesNothing : Instr → Bool
  | .edge _ => false
  | .clear => false
  | .nop => true
  | .getAddress => true
  | .getCommand => true
  | .getPair => true
  | .getStatus => true
  | .getFrame => true
  | .getCounters => true
  | .unwrap _ _ => true
  | .classify _ => true
  | .decode _ => true

end Sys2Proof.Spec

open Sys2Proof
open Sys2Proof.Machine

/-! ### Encoding -/

/-- Decoding an encoded command gives it back, every operand at every value (30_encoding.md R55, R58, R59, R64); with the
value checks of an instance, exactly when it is well formed (R63). -/
def Obligations.DecodeOfEncode : Prop :=
  ∀ i : Instr, decode (encode i) = .ok i ∧
    ∀ p : Params, decodeLegal p (encode i) = if i.wf p then some i else none

/-- The worked encodings of 30_encoding.md R66: each word decodes to its command, and the command encodes to it. -/
def Obligations.WorkedEncodings : Prop :=
  (decode 0x01000000000034BC#64 = .ok (.edge 13500#16) ∧ encode (.edge 13500#16) = 0x01000000000034BC#64) ∧
  (decode 0x010000000000FFFA#64 = .ok (.edge 65530#16) ∧ encode (.edge 65530#16) = 0x010000000000FFFA#64) ∧
  (decode 0x2000000A0000FFFA#64 = .ok (.unwrap 65530#16 10#16) ∧
    encode (.unwrap 65530#16 10#16) = 0x2000000A0000FFFA#64) ∧
  (decode 0x2100000000000465#64 = .ok (.classify 1125#16) ∧ encode (.classify 1125#16) = 0x2100000000000465#64) ∧
  (decode 0x22000000F30CFB04#64 = .ok (.decode 0xF30CFB04#32) ∧
    encode (.decode 0xF30CFB04#32) = 0x22000000F30CFB04#64) ∧
  (decode 0x1200000000000000#64 = .ok .getPair ∧ encode .getPair = 0x1200000000000000#64) ∧
  (decode 0x0200000000000000#64 = .ok .clear ∧ encode .clear = 0x0200000000000000#64)

/-- 30_encoding.md R63: the decoder is total; a word is ILLEGAL exactly on the grounds listed there, and any other word is
the row of R59 for its opcode, with its operands from R58. -/
def Obligations.DecoderRowsAndIllegalSpace : Prop :=
  ∀ (p : Params) (w : CmdWord),
    (Spec.IllegalWord p w → decodeLegal p w = none) ∧
    (¬ Spec.IllegalWord p w →
      (Spec.opc w = 0x00#8 → decodeLegal p w = some .nop) ∧
      (Spec.opc w = 0x01#8 → decodeLegal p w = some (.edge (Spec.aLow w))) ∧
      (Spec.opc w = 0x02#8 → decodeLegal p w = some .clear) ∧
      (Spec.opc w = 0x10#8 → decodeLegal p w = some .getAddress) ∧
      (Spec.opc w = 0x11#8 → decodeLegal p w = some .getCommand) ∧
      (Spec.opc w = 0x12#8 → decodeLegal p w = some .getPair) ∧
      (Spec.opc w = 0x13#8 → decodeLegal p w = some .getStatus) ∧
      (Spec.opc w = 0x14#8 → decodeLegal p w = some .getFrame) ∧
      (Spec.opc w = 0x15#8 → decodeLegal p w = some .getCounters) ∧
      (Spec.opc w = 0x20#8 → decodeLegal p w = some (.unwrap (Spec.aLow w) (Spec.bFull w))) ∧
      (Spec.opc w = 0x21#8 → decodeLegal p w = some (.classify (Spec.aLow w))) ∧
      (Spec.opc w = 0x22#8 → decodeLegal p w = some (.decode (Spec.aFull w))))

/-- 30_encoding.md R58: bits that a command does not list may hold any value; a word that agrees with `w` on the bits the
command uses decodes to the same command, and the assembler sets every other bit to 0 (R64). -/
def Obligations.UnlistedBitsIgnored : Prop :=
  ∀ (w x : CmdWord) (i : Instr), decode w = .ok i → x &&& Spec.usedBits i = w &&& Spec.usedBits i →
    decode x = .ok i ∧ encode i = w &&& Spec.usedBits i

/-! ### The step -/

/-- A step takes the word on the command port: a word that decodes runs `exec` of its command on the state past that
slot, and one that does not decode takes the illegal-command path (00_scope.md R15, 60_exceptions.md R103). -/
def Obligations.StepRunsDecodedCommand : Prop :=
  ∀ (s : State) (w : CmdWord) (rest : List PortSlot), s.inputs = { reset := false, command := some w } :: rest →
    (∀ i, decode w = .ok i → step s = exec i { s with inputs := rest }) ∧
    (∀ e, decode w = .error e → step s = .next (Spec.illegal { s with inputs := rest }))

/-- A word placed by `withFetchWord` is the word the very next step takes. -/
def Obligations.PlacedWordRunsNext : Prop :=
  ∀ (s : State) (w : Nat) (i : Instr), decodeTableWord 64 w = some i → step (s.withFetchWord 64 w) = exec i s

/-- 60_exceptions.md R103: an illegal word's step sets `CMD_ERR`, answers 0 and writes nothing else. -/
def Obligations.IllegalWordSetsOnlyCmdErr : Prop :=
  ∀ (s : State) (w : CmdWord) (rest : List PortSlot), s.inputs = { reset := false, command := some w } :: rest →
    Spec.IllegalWord s.cfg w →
    step s = .next { s with inputs := rest, cmdErr := true, resp := some 0#32 }

/-- Reset (70_reset_and_hazards.md R116) sets every register to the value of 10_state.md R39 from any earlier state,
whatever command is in flight, and answers nothing. R39 gives the window no value, so the statement gives it none. -/
def Obligations.ResetSetsEveryRegister : Prop :=
  ∀ (s : State) (c : Option CmdWord) (rest : List PortSlot), s.inputs = { reset := true, command := c } :: rest →
    ∃ a b : Timestamp, step s = .next
      { cfg := s.cfg, st := .hunt, k := 0#5, ph := 0#1, hc := 0#2, w0 := a, w1 := b, fr := 0#32, res := 0#8,
        lastAddr := 0#8, lastCmd := 0#8, haveLast := false, cmdErr := false,
        okCnt := 0#8, csumCnt := 0#8, desyncCnt := 0#8, repeatCnt := 0#8, inputs := rest, resp := none }

/-- A slot in which the driver presents nothing. -/
abbrev Spec.idleSlot : PortSlot := { reset := false, command := none }

/-- Between commands the block holds its state, indefinitely (60_exceptions.md R115, R105): any number of steps in which
the driver presents nothing, whatever it presents after them, changes no register; and so does any number of steps of a
driver that presents nothing more. The idle step itself is the model's (log entry 16). -/
def Obligations.IdleStepsHoldState : Prop :=
  (∀ (s : State) (n : Nat) (rest : List PortSlot), s.inputs = List.replicate n Spec.idleSlot ++ rest →
    ∃ r, Host.Core.run core n s = .next { s with inputs := rest, resp := r }) ∧
  (∀ (s : State) (n : Nat), s.inputs = List.replicate n Spec.idleSlot →
    ∀ m, ∃ r rest, Host.Core.run core m s = .next { s with inputs := rest, resp := r })

/-- The block never stops: every step answers a next state, and so does every command in every state
(60_exceptions.md R100, R112). -/
def Obligations.BlockNeverStops : Prop :=
  (∀ s : State, ∃ t, step s = .next t) ∧ (∀ (i : Instr) (s : State), ∃ t, exec i s = .next t)

/-! ### Commands that change no state -/

/-- 42_readout_and_test.md R90: every word with `OPC = 0x00` and `RSV = 0` is NOP, one with `RSV` not 0 is illegal; NOP
answers 0 and changes nothing. -/
def Obligations.NopDoesNothing : Prop :=
  Spec.EncodedAs 0x00#8 (fun _ => .nop) ∧
  (∀ p w, Spec.opc w = 0x00#8 → Spec.rsv w ≠ 0#8 → decodeLegal p w = none) ∧
  ∀ s : State, exec .nop s = .next (Spec.answer s 0)

/-- GET_ADDRESS and GET_COMMAND answer the published bytes zero-extended and change nothing (42_readout_and_test.md R91,
R92). -/
def Obligations.GettersAnswerPublishedBytes : Prop :=
  Spec.EncodedAs 0x10#8 (fun _ => .getAddress) ∧ Spec.EncodedAs 0x11#8 (fun _ => .getCommand) ∧
  ∀ s : State, exec .getAddress s = .next (Spec.answer s s.lastAddr.toNat) ∧
    exec .getCommand s = .next (Spec.answer s s.lastCmd.toNat)

/-- 10_state.md R34: GET_PAIR answers `LAST_ADDR` in bits 7:0, `LAST_CMD` in 15:8, `HAVE_LAST` in 16, 0 above, and
changes nothing. -/
def Obligations.GetPairAnswersPairWord : Prop :=
  ∀ s : State, exec .getPair s =
    .next (Spec.answer s (s.lastAddr.toNat + 2 ^ 8 * s.lastCmd.toNat + 2 ^ 16 * Spec.flag s.haveLast))

/-- 10_state.md R33: GET_STATUS, which changes nothing, and every legal EDGE answer the STATUS word, GET_STATUS of its
state and EDGE of the state after it. -/
def Obligations.StatusWordOfGetStatusAndEdge : Prop :=
  ∀ s : State, exec .getStatus s = .next (Spec.answer s (Spec.statusNumber s)) ∧
    ∀ t : Timestamp, t.toNat < s.cfg.m →
      ∃ u, exec (.edge t) s = .next u ∧ u.resp = some (BitVec.ofNat 32 (Spec.statusNumber u))

/-- GET_FRAME answers `FR` and changes nothing (42_readout_and_test.md R95). -/
def Obligations.GetFrameAnswersFr : Prop :=
  Spec.EncodedAs 0x14#8 (fun _ => .getFrame) ∧ ∀ s : State, exec .getFrame s = .next (Spec.answer s s.fr.toNat)

/-- 10_state.md R35: GET_COUNTERS answers the four counters, `OK_CNT` lowest, and changes nothing. -/
def Obligations.GetCountersAnswersCountersWord : Prop :=
  ∀ s : State, exec .getCounters s = .next (Spec.answer s
    (s.okCnt.toNat + 2 ^ 8 * s.csumCnt.toNat + 2 ^ 16 * s.desyncCnt.toNat + 2 ^ 24 * s.repeatCnt.toNat))

/-- 42_readout_and_test.md R97: UNWRAP of two timestamps answers `(later - earlier) mod M`; an operand not below `M`
makes it illegal. -/
def Obligations.UnwrapAnswersInterval : Prop :=
  Spec.EncodedAs 0x20#8 (fun w => .unwrap (Spec.aLow w) (Spec.bFull w)) ∧
  ∀ (s : State) (earlier later : Timestamp), s.cfg.wf →
    (earlier.toNat < s.cfg.m → later.toNat < s.cfg.m →
      exec (.unwrap earlier later) s = .next (Spec.answer s (Spec.interval s.cfg earlier later))) ∧
    (s.cfg.m ≤ earlier.toNat ∨ s.cfg.m ≤ later.toNat → exec (.unwrap earlier later) s = .next (Spec.illegal s))

/-- A true duration `D` between two captured edges is known only as `D mod M` (70_reset_and_hazards.md R121,
40_frame_assembler.md R67): UNWRAP of the two captured counter values answers that, and so a duration below `M` exactly. -/
def Obligations.UnwrapAliasesModuloM : Prop :=
  ∀ (s : State) (time duration : Nat), s.cfg.wf →
    exec (.unwrap (captured s.cfg time) (captured s.cfg (time + duration))) s
      = .next (Spec.answer s (duration % s.cfg.m))

/-- 42_readout_and_test.md R98: CLASSIFY answers the code of the first band that holds the operand, for every 16-bit
operand, and changes nothing. -/
def Obligations.ClassifyAnswersBandCode : Prop :=
  Spec.EncodedAs 0x21#8 (fun w => .classify (Spec.aLow w)) ∧
  ∀ (s : State) (iv : Interval), exec (.classify iv) s = .next (Spec.answer s (Spec.bandNumber s.cfg iv.toNat))

/-- With the default table no interval lies in two bands, so the priority order never decides (40_frame_assembler.md R68),
and CLASSIFY of each band's bounds, of their outer neighbours, of 0 and of 1700 answers as R68's inclusive bounds say. -/
def Obligations.DefaultBandsAreDisjoint : Prop :=
  ∀ s : State, s.cfg = Params.default →
    (∀ n : Nat, ¬ (13300 ≤ n ∧ n ≤ 13700 ∧ 11000 ≤ n ∧ n ≤ 12500) ∧
      (1000 ≤ n ∧ n ≤ 1300 → Spec.bandNumber s.cfg n = 3) ∧ (2100 ≤ n ∧ n ≤ 2400 → Spec.bandNumber s.cfg n = 4) ∧
      (11000 ≤ n ∧ n ≤ 12500 → Spec.bandNumber s.cfg n = 2) ∧ (13300 ≤ n ∧ n ≤ 13700 → Spec.bandNumber s.cfg n = 1)) ∧
    exec (.classify 999#16) s = .next (Spec.answer s 0) ∧ exec (.classify 1000#16) s = .next (Spec.answer s 3) ∧
    exec (.classify 1300#16) s = .next (Spec.answer s 3) ∧ exec (.classify 1301#16) s = .next (Spec.answer s 0) ∧
    exec (.classify 2099#16) s = .next (Spec.answer s 0) ∧ exec (.classify 2100#16) s = .next (Spec.answer s 4) ∧
    exec (.classify 2400#16) s = .next (Spec.answer s 4) ∧ exec (.classify 2401#16) s = .next (Spec.answer s 0) ∧
    exec (.classify 10999#16) s = .next (Spec.answer s 0) ∧ exec (.classify 11000#16) s = .next (Spec.answer s 2) ∧
    exec (.classify 12500#16) s = .next (Spec.answer s 2) ∧ exec (.classify 12501#16) s = .next (Spec.answer s 0) ∧
    exec (.classify 13299#16) s = .next (Spec.answer s 0) ∧ exec (.classify 13300#16) s = .next (Spec.answer s 1) ∧
    exec (.classify 13700#16) s = .next (Spec.answer s 1) ∧ exec (.classify 13701#16) s = .next (Spec.answer s 0) ∧
    exec (.classify 0#16) s = .next (Spec.answer s 0) ∧ exec (.classify 1700#16) s = .next (Spec.answer s 0)

/-- 41_packet_validator.md R89: DECODE answers the sliced address and command bytes and the two check bits of its operand,
for every 32-bit operand, and changes nothing. -/
def Obligations.DecodeAnswersBytesAndMask : Prop :=
  Spec.EncodedAs 0x22#8 (fun w => .decode (Spec.aFull w)) ∧
  ∀ (s : State) (f : Frame), exec (.decode f) s = .next (Spec.answer s
    ((f.extractLsb' 0 8).toNat + 2 ^ 8 * (f.extractLsb' 16 8).toNat + 2 ^ 16 * Spec.maskNumber f))

/-- 41_packet_validator.md R83: the two checks are independent, each passes iff its XOR is 0xFF, which is to say iff the
inverted byte is the complement of its partner, and a frame is valid iff both pass. -/
def Obligations.ChecksPassIffComplements : Prop :=
  ∀ (s : State) (f : Frame), ∃ r, exec (.decode f) s = .next { s with resp := some r } ∧
    (r.getLsbD 16 = false ↔ f.extractLsb' 0 8 ^^^ f.extractLsb' 8 8 = 0xFF#8) ∧
    (r.getLsbD 17 = false ↔ f.extractLsb' 16 8 ^^^ f.extractLsb' 24 8 = 0xFF#8) ∧
    (r.getLsbD 16 = false ↔ f.extractLsb' 8 8 = ~~~(f.extractLsb' 0 8)) ∧
    (r.getLsbD 17 = false ↔ f.extractLsb' 24 8 = ~~~(f.extractLsb' 16 8)) ∧
    (r.extractLsb' 16 2 = 0#2 ↔ ∃ a c : Byte, f = Spec.packet a c)

/-- DECODE of the frame of any (address, command) pair answers that pair and no check bit (41_packet_validator.md R82,
R84; 95_test_vectors.md W5). -/
def Obligations.DecodeOfPacketReturnsPair : Prop :=
  ∀ (s : State) (a c : Byte),
    exec (.decode (Spec.packet a c)) s = .next (Spec.answer s (a.toNat + 2 ^ 8 * c.toNat))

/-- 20_memory.md R46: a command that changes nothing, issued any number of times, returns the same response each time and
leaves the state as it was. -/
def Obligations.ReadoutsRepeatWithoutEffect : Prop :=
  ∀ (i : Instr) (s : State), Spec.changesNothing i = true → i.wf s.cfg = true →
    ∃ r, ∀ n, Host.Core.run core (n + 1) (s.issueAll (List.replicate (n + 1) i)) = .next { s with resp := some r }

/-- Before the first valid frame GET_ADDRESS and GET_COMMAND answer 0 (70_reset_and_hazards.md R117,
42_readout_and_test.md R91), in every state that meets the invariants. -/
def Obligations.GettersAnswerZeroBeforeFirstPublish : Prop :=
  ∀ s : State, s.Inv → s.haveLast = false →
    exec .getAddress s = .next (Spec.answer s 0) ∧ exec .getCommand s = .next (Spec.answer s 0)

/-! ### CLEAR -/

/-- 40_frame_assembler.md R78: CLEAR empties the assembler's working state, answers 0, keeps everything else, and a second
CLEAR right after it changes nothing more; the next `S` EDGEs only fill the window, with their
timestamps, oldest first. -/
def Obligations.ClearResynchronises : Prop :=
  Spec.EncodedAs 0x02#8 (fun _ => .clear) ∧
  ∀ s : State, exec .clear s = .next
      { s with st := .hunt, k := 0#5, ph := 0#1, hc := 0#2, fr := 0#32, res := 0#8, resp := some 0#32 } ∧
    ∀ t, exec .clear s = .next t → exec .clear t = .next t ∧
      ∀ ts : List Timestamp, ts.length = s.cfg.stride.toNat → (∀ x ∈ ts, x.toNat < s.cfg.m) →
        ∃ u : State, Host.Core.run core ts.length (t.issueAll (ts.map Instr.edge)) = .next u ∧
          u = { t with hc := u.hc, w0 := u.w0, w1 := u.w1, resp := u.resp } ∧ u.hc.toNat = s.cfg.stride.toNat ∧
          ∀ j, u.entry? j = ts[j]?

/-- 70_reset_and_hazards.md R118: CLEAR keeps the published pair, `HAVE_LAST`, `CMD_ERR` and the counters, reset clears
them all, and they differ in nothing else: both empty the window, return the assembler to HUNT and leave `K`, `PH`, `FR`
and `RES` at 0. -/
def Obligations.ResetAndClearDiffer : Prop :=
  ∀ (s : State) (slot : PortSlot) (rest : List PortSlot),
    (∃ t, exec .clear s = .next t ∧ t.lastAddr = s.lastAddr ∧ t.lastCmd = s.lastCmd ∧ t.haveLast = s.haveLast ∧
      t.cmdErr = s.cmdErr ∧ t.okCnt = s.okCnt ∧ t.csumCnt = s.csumCnt ∧ t.desyncCnt = s.desyncCnt ∧
      t.repeatCnt = s.repeatCnt ∧ t.hc = 0#2 ∧ (∀ j, t.entry? j = none) ∧ t.st = .hunt ∧
      t.k = 0#5 ∧ t.ph = 0#1 ∧ t.fr = 0#32 ∧ t.res = 0#8) ∧
    (s.inputs = slot :: rest → slot.reset = true →
      ∃ t, step s = .next t ∧ t.lastAddr = 0#8 ∧ t.lastCmd = 0#8 ∧ t.haveLast = false ∧ t.cmdErr = false ∧
        t.okCnt = 0#8 ∧ t.csumCnt = 0#8 ∧ t.desyncCnt = 0#8 ∧ t.repeatCnt = 0#8 ∧ t.hc = 0#2 ∧
        (∀ j, t.entry? j = none) ∧ t.st = .hunt ∧ t.k = 0#5 ∧ t.ph = 0#1 ∧ t.fr = 0#32 ∧ t.res = 0#8)

/-! ### EDGE, case by case -/

/-- 40_frame_assembler.md R77: a legal EDGE gives exactly the registers and the response of the normative pseudocode, and
an EDGE with `t >= M` sets only `CMD_ERR` and answers 0. -/
def Obligations.EdgeFollowsPseudocode : Prop :=
  Spec.EncodedAs 0x01#8 (fun w => .edge (Spec.aLow w)) ∧
  ∀ (s : State) (t : Timestamp), s.cfg.wf →
    (t.toNat < s.cfg.m → exec (.edge t) s = .next (Spec.edge s t)) ∧
    (s.cfg.m ≤ t.toNat → exec (.edge t) s = .next (Spec.illegal s))

/-- 40_frame_assembler.md R70: every legal EDGE shifts `t` into the window; `HC` is `min(HC + 1, S)` unless the EDGE is a
repeat code or completes a frame, which set it to 0. -/
def Obligations.EdgeShiftsWindow : Prop :=
  ∀ (s : State) (t : Timestamp), t.toNat < s.cfg.m → ∃ u, exec (.edge t) s = .next u ∧
    (s.cfg.stride = .one → u.w0 = t ∧ u.w1 = s.w1) ∧ (s.cfg.stride = .two → u.w0 = s.w1 ∧ u.w1 = t) ∧
    ((resKind u.res = 2#3 ∨ resKind u.res = 3#3) → u.hc = 0#2) ∧
    (¬ (resKind u.res = 2#3 ∨ resKind u.res = 3#3) → u.hc.toNat = min (s.hc.toNat + 1) s.cfg.stride.toNat)

/-- An EDGE that measures no interval (40_frame_assembler.md R69, R72): in HUNT with `HC < S` it only shifts the window,
and in FRAME off a bit boundary it also advances `PH`; its result is NEED_MORE_DATA. -/
def Obligations.EdgeWithoutInterval : Prop :=
  ∀ (s : State) (t : Timestamp), t.toNat < s.cfg.m →
    ((s.st = .hunt ∧ s.hc.toNat ≠ s.cfg.stride.toNat) ∨ (s.st = .frame ∧ s.ph.toNat ≠ s.cfg.stride.toNat - 1)) →
    ∃ u, exec (.edge t) s = .next u ∧
      u = { s with w0 := Spec.w0After s t, w1 := Spec.w1After s t, hc := u.hc, res := 0#8, resp := u.resp,
                   ph := if s.st = .hunt then 0#1 else s.ph + 1#1 } ∧
      u.hc.toNat = min (s.hc.toNat + 1) s.cfg.stride.toNat

/-- 40_frame_assembler.md R71: in HUNT with a full window, a Sync starts a frame, a RepeatMarker empties the window,
counts and republishes the pair if there is one, and any other candidate is skipped. -/
def Obligations.HuntCandidateActs : Prop :=
  ∀ (s : State) (t : Timestamp), s.cfg.wf → t.toNat < s.cfg.m → s.st = .hunt → s.HuntIdle →
    s.hc.toNat = s.cfg.stride.toNat →
    ∃ u, exec (.edge t) s = .next u ∧
      (Spec.bandFromAnchor s t = 1 →
        u = { s with st := .frame, k := 0#5, ph := 0#1, fr := 0#32, res := 1#8, w0 := Spec.w0After s t, w1 := Spec.w1After s t, resp := u.resp }) ∧
      (Spec.bandFromAnchor s t = 2 →
        u = { s with hc := 0#2, repeatCnt := s.repeatCnt + 1#8, res := if s.haveLast then 0x82#8 else 0x02#8,
                     w0 := Spec.w0After s t, w1 := Spec.w1After s t, resp := u.resp }) ∧
      (Spec.bandFromAnchor s t ≠ 1 → Spec.bandFromAnchor s t ≠ 2 →
        u = { s with res := 0#8, w0 := Spec.w0After s t, w1 := Spec.w1After s t, resp := u.resp })

/-- 40_frame_assembler.md R73: a boundary edge whose interval is Bit0 or Bit1 stores that bit at `FR[K]` and no other bit;
below bit 31 it counts on in `K` with NEED_MORE_DATA, and at bit 31 the frame is complete. -/
def Obligations.BoundaryEdgeStoresBit : Prop :=
  ∀ (s : State) (t : Timestamp), s.cfg.wf → t.toNat < s.cfg.m → s.st = .frame →
    s.ph.toNat = s.cfg.stride.toNat - 1 → (Spec.bandFromAnchor s t = 3 ∨ Spec.bandFromAnchor s t = 4) →
    ∃ u, exec (.edge t) s = .next u ∧
      (∀ j, j < 32 → u.fr.getLsbD j = if j = s.k.toNat then decide (Spec.bandFromAnchor s t = 4) else s.fr.getLsbD j) ∧
      (s.k.toNat < 31 → u.k.toNat = s.k.toNat + 1 ∧ u.res = 0#8 ∧ u.st = .frame ∧ u.ph = 0#1 ∧
        u.lastAddr = s.lastAddr ∧ u.lastCmd = s.lastCmd ∧ u.haveLast = s.haveLast ∧ u.okCnt = s.okCnt ∧
        u.csumCnt = s.csumCnt ∧ u.desyncCnt = s.desyncCnt ∧ u.repeatCnt = s.repeatCnt) ∧
      (s.k.toNat = 31 → resKind u.res = 3#3)

/-- 40_frame_assembler.md R74: an in-frame Sync abandons the frame and starts a new one at this sync; no counter moves. -/
def Obligations.InFrameSyncRestarts : Prop :=
  ∀ (s : State) (t : Timestamp), s.cfg.wf → t.toNat < s.cfg.m → s.st = .frame → s.FrameAnchored →
    s.ph.toNat = s.cfg.stride.toNat - 1 → Spec.bandFromAnchor s t = 1 →
    ∃ u, exec (.edge t) s = .next u ∧
      u = { s with k := 0#5, ph := 0#1, fr := 0#32, res := 1#8, w0 := Spec.w0After s t, w1 := Spec.w1After s t, resp := u.resp }

/-- 40_frame_assembler.md R75: an in-frame Invalid or RepeatMarker aborts the frame with its reason, counts the desync,
keeps `FR`, the published pair and the window, which still holds `t`; and the next EDGE measures from the edge that
followed the anchor. -/
def Obligations.BadIntervalDesyncs : Prop :=
  ∀ (s : State) (t : Timestamp), s.cfg.wf → t.toNat < s.cfg.m → s.st = .frame → s.FrameAnchored →
    s.ph.toNat = s.cfg.stride.toNat - 1 → (Spec.bandFromAnchor s t = 0 ∨ Spec.bandFromAnchor s t = 2) →
    ∃ u, exec (.edge t) s = .next u ∧
      u = { s with st := .hunt, k := 0#5, ph := 0#1, desyncCnt := s.desyncCnt + 1#8,
                   res := if Spec.bandFromAnchor s t = 2 then 0x14#8 else 0x0C#8,
                   w0 := Spec.w0After s t, w1 := Spec.w1After s t, resp := u.resp } ∧
      u.hc.toNat = s.cfg.stride.toNat ∧ u.entry? (s.cfg.stride.toNat - 1) = some t ∧
      u.w0 = Spec.w0After s t

/-- A sync that begins at the edge after the anchor of a bad interval is still found (40_frame_assembler.md R75, R81): the
EDGE after the DESYNC answers SYNC_FOUND when its interval from that edge is a Sync. -/
def Obligations.SyncAfterDesyncIsFound : Prop :=
  ∀ (s : State) (t t' : Timestamp), s.cfg.wf → t.toNat < s.cfg.m → t'.toNat < s.cfg.m → s.st = .frame →
    s.FrameAnchored → s.ph.toNat = s.cfg.stride.toNat - 1 →
    (Spec.bandFromAnchor s t = 0 ∨ Spec.bandFromAnchor s t = 2) →
    Spec.bandNumber s.cfg (Spec.interval s.cfg (Spec.w0After s t) t') = 1 →
    ∃ u v, exec (.edge t) s = .next u ∧ exec (.edge t') u = .next v ∧
      v.st = .frame ∧ v.k = 0#5 ∧ v.fr = 0#32 ∧ v.res = 1#8 ∧ v.desyncCnt = s.desyncCnt + 1#8

/-- 41_packet_validator.md R86: the edge that completes a valid frame publishes its pair in the same step, counts it, and
returns the assembler to HUNT with an empty window; the publish port shows the new pair, and a getter right after it
answers from it (70_reset_and_hazards.md R120). -/
def Obligations.ValidFramePublishes : Prop :=
  ∀ (s : State) (t : Timestamp), s.cfg.wf → t.toNat < s.cfg.m → Spec.publishes s t = true →
    ∃ u, exec (.edge t) s = .next u ∧
      u = { s with st := .hunt, k := 0#5, ph := 0#1, hc := 0#2, fr := u.fr, res := 0x83#8,
                   lastAddr := u.fr.extractLsb' 0 8, lastCmd := u.fr.extractLsb' 16 8, haveLast := true,
                   okCnt := s.okCnt + 1#8, w0 := Spec.w0After s t, w1 := Spec.w1After s t, resp := u.resp } ∧
      u.fr = Spec.storedFrame s t ∧
      u.pub = { pubAddr := u.fr.extractLsb' 0 8, pubCmd := u.fr.extractLsb' 16 8, pubValid := true, pubRes := 0x83#8 } ∧
      exec .getAddress u = .next (Spec.answer u (u.fr.extractLsb' 0 8).toNat) ∧
      exec .getCommand u = .next (Spec.answer u (u.fr.extractLsb' 16 8).toNat) ∧
      exec .getPair u = .next (Spec.answer u
        ((u.fr.extractLsb' 0 8).toNat + 2 ^ 8 * (u.fr.extractLsb' 16 8).toNat + 2 ^ 16))

/-- 41_packet_validator.md R87: the edge that completes a frame whose mask is not 0 discards it: the published pair is
unchanged, the mask is in `RES.CSUM`, `CSUM_CNT` counts it, and the assembler is ready for the next sync. -/
def Obligations.InvalidFrameIsDiscarded : Prop :=
  ∀ (s : State) (t : Timestamp), s.cfg.wf → t.toNat < s.cfg.m → Spec.rejects s t = true →
    ∃ u, exec (.edge t) s = .next u ∧
      u = { s with st := .hunt, k := 0#5, ph := 0#1, hc := 0#2, fr := Spec.storedFrame s t, res := u.res,
                   csumCnt := s.csumCnt + 1#8, w0 := Spec.w0After s t, w1 := Spec.w1After s t, resp := u.resp } ∧
      resKind u.res = 3#3 ∧ resReason u.res = 0#2 ∧ resPub u.res = false ∧
      (resCsum u.res).toNat = Spec.maskNumber (Spec.storedFrame s t)

/-- 10_state.md R29: after a legal EDGE `RES.PUB` is 1 exactly when the EDGE completed a valid frame or recognised a repeat
code while `HAVE_LAST = 1`, and a repeat code never changes the published pair (41_packet_validator.md R88). -/
def Obligations.PubMeansPublishOrRepublish : Prop :=
  ∀ (s : State) (t : Timestamp), s.cfg.wf → t.toNat < s.cfg.m → ∃ u, exec (.edge t) s = .next u ∧
    (resPub u.res = true ↔ Spec.publishes s t = true ∨ (Spec.findsRepeat s t = true ∧ s.haveLast = true)) ∧
    (resKind u.res = 2#3 → u.lastAddr = s.lastAddr ∧ u.lastCmd = s.lastCmd ∧ u.haveLast = s.haveLast)

/-- The frame of a legal EDGE (10_state.md R38): it changes no parameter, no pending input and not `CMD_ERR`; the published
pair changes only when a valid frame completes, and each counter only on its own event. -/
def Obligations.EdgeFrame : Prop :=
  ∀ (s : State) (t : Timestamp), t.toNat < s.cfg.m → ∃ u, exec (.edge t) s = .next u ∧
    u.cfg = s.cfg ∧ u.inputs = s.inputs ∧ u.cmdErr = s.cmdErr ∧
    (¬ (resKind u.res = 3#3 ∧ resCsum u.res = 0#2) →
      u.lastAddr = s.lastAddr ∧ u.lastCmd = s.lastCmd ∧ u.haveLast = s.haveLast ∧ u.okCnt = s.okCnt) ∧
    (¬ (resKind u.res = 3#3 ∧ resCsum u.res ≠ 0#2) → u.csumCnt = s.csumCnt) ∧
    (resKind u.res ≠ 4#3 → u.desyncCnt = s.desyncCnt) ∧
    (resKind u.res ≠ 2#3 → u.repeatCnt = s.repeatCnt)

/-! ### Rules of the whole machine -/

/-- 10_state.md R32: each counter counts modulo 256, on its own event: after any command other than a legal EDGE all four
are unchanged, after a legal EDGE each has gone up by one exactly when the result says so, reset zeroes all four, and
GET_COUNTERS reads them. -/
def Obligations.CountersCountTheirEvents : Prop :=
  (∀ (s : State) (c : Option CmdWord) (rest : List PortSlot), s.inputs = { reset := true, command := c } :: rest →
    ∃ t, step s = .next t ∧ t.okCnt = 0#8 ∧ t.csumCnt = 0#8 ∧ t.desyncCnt = 0#8 ∧ t.repeatCnt = 0#8) ∧
  (∀ s : State, exec .getCounters s = .next { s with resp := some (s.repeatCnt ++ s.desyncCnt ++ s.csumCnt ++ s.okCnt) }) ∧
  ∀ (s t : State) (w : CmdWord) (rest : List PortSlot),
    s.inputs = { reset := false, command := some w } :: rest → step s = .next t →
    ((Spec.opc w = 0x01#8 ∧ ¬ Spec.IllegalWord s.cfg w) →
      t.okCnt.toNat = (s.okCnt.toNat + Spec.flag (resKind t.res == 3#3 && resCsum t.res == 0#2)) % 256 ∧
      t.csumCnt.toNat = (s.csumCnt.toNat + Spec.flag (resKind t.res == 3#3 && resCsum t.res != 0#2)) % 256 ∧
      t.desyncCnt.toNat = (s.desyncCnt.toNat + Spec.flag (resKind t.res == 4#3)) % 256 ∧
      t.repeatCnt.toNat = (s.repeatCnt.toNat + Spec.flag (resKind t.res == 2#3)) % 256) ∧
    (¬ (Spec.opc w = 0x01#8 ∧ ¬ Spec.IllegalWord s.cfg w) →
      t.okCnt = s.okCnt ∧ t.csumCnt = s.csumCnt ∧ t.desyncCnt = s.desyncCnt ∧ t.repeatCnt = s.repeatCnt)

/-- 10_state.md R30: `CMD_ERR` is sticky: after a command it is 1 iff it was 1 or the command was illegal, a step without
a command keeps it, only reset clears it, and GET_STATUS shows it in bit 18. -/
def Obligations.CmdErrIsSticky : Prop :=
  (∀ (s t : State) (slot : PortSlot) (rest : List PortSlot), s.inputs = slot :: rest → step s = .next t →
    (slot.reset = true → t.cmdErr = false) ∧
    (slot.reset = false → ∀ w, slot.command = some w →
      (t.cmdErr = true ↔ s.cmdErr = true ∨ Spec.IllegalWord s.cfg w)) ∧
    (slot.reset = false → slot.command = none → t.cmdErr = s.cmdErr)) ∧
  ∀ s : State, ∃ u r, exec .getStatus s = .next u ∧ u.resp = some r ∧ r.getLsbD 18 = s.cmdErr

/-- The command word is an EDGE that completes a valid frame. -/
abbrev Spec.PublishingWord (s : State) (w : CmdWord) : Prop :=
  Spec.opc w = 0x01#8 ∧ ¬ Spec.IllegalWord s.cfg w ∧ Spec.publishes s (Spec.aLow w) = true

/-- 10_state.md R31: the published pair is written by a valid frame's completion, which writes all three registers in one
step, and by reset; nothing else writes it, so the publish port never shows a mixture of two pairs (20_memory.md R48). -/
def Obligations.PairWrittenOnlyByValidFrame : Prop :=
  ∀ (s t : State) (slot : PortSlot) (rest : List PortSlot), s.cfg.wf → s.inputs = slot :: rest → step s = .next t →
    (slot.reset = true → t.lastAddr = 0#8 ∧ t.lastCmd = 0#8 ∧ t.haveLast = false) ∧
    (slot.reset = false → slot.command = none →
      t.lastAddr = s.lastAddr ∧ t.lastCmd = s.lastCmd ∧ t.haveLast = s.haveLast) ∧
    (slot.reset = false → ∀ w, slot.command = some w →
      (Spec.PublishingWord s w → t.haveLast = true ∧ t.fr = Spec.storedFrame s (Spec.aLow w) ∧
        t.fr = Spec.packet t.lastAddr t.lastCmd) ∧
      (¬ Spec.PublishingWord s w → t.lastAddr = s.lastAddr ∧ t.lastCmd = s.lastCmd ∧ t.haveLast = s.haveLast))

/-- 20_memory.md R46: only EDGE, CLEAR and illegal commands change state: any other command leaves every register as it
was, and an illegal one changes only `CMD_ERR`. -/
def Obligations.OnlyEdgeClearAndIllegalChangeState : Prop :=
  ∀ (s t : State) (w : CmdWord) (rest : List PortSlot),
    s.inputs = { reset := false, command := some w } :: rest → step s = .next t →
    (Spec.IllegalWord s.cfg w → t = { s with inputs := rest, cmdErr := true, resp := t.resp }) ∧
    (¬ Spec.IllegalWord s.cfg w → Spec.opc w ≠ 0x01#8 → Spec.opc w ≠ 0x02#8 →
      t = { s with inputs := rest, resp := t.resp })

/-- The instance parameters are fixed: no step changes them (00_scope.md R5, 70_reset_and_hazards.md R116, R127). -/
def Obligations.ParametersNeverChange : Prop :=
  ∀ s t : State, step s = .next t → t.cfg = s.cfg

/-- A step meets at most one condition (60_exceptions.md R106): of an illegal command, a desync and a checksum failure, at
most one is recorded by one command's step. -/
def Obligations.AtMostOneConditionPerStep : Prop :=
  ∀ (s t : State) (w : CmdWord) (rest : List PortSlot),
    s.inputs = { reset := false, command := some w } :: rest → step s = .next t →
    (Spec.IllegalWord s.cfg w → t.desyncCnt = s.desyncCnt ∧ t.csumCnt = s.csumCnt ∧ t.res = s.res) ∧
    (t.desyncCnt ≠ s.desyncCnt → t.csumCnt = s.csumCnt ∧ t.okCnt = s.okCnt ∧ t.repeatCnt = s.repeatCnt ∧
      ¬ Spec.IllegalWord s.cfg w) ∧
    (t.csumCnt ≠ s.csumCnt → t.desyncCnt = s.desyncCnt ∧ t.okCnt = s.okCnt ∧ t.repeatCnt = s.repeatCnt ∧
      ¬ Spec.IllegalWord s.cfg w)

/-- The invariants of 10_state.md R37, with the legal window of R16: every step keeps them, from every state that meets
them. -/
def Obligations.StepKeepsInvariants : Prop :=
  ∀ s t : State, s.Inv → step s = .next t → t.Inv

/-- The invariants hold at reset, for every legal instance. -/
def Obligations.ResetMeetsInvariants : Prop :=
  ∀ p : Params, p.wf → (State.resetOf p).Inv ∧ (State.resetOf p).FrameBelowK

/-- In FRAME with `K = k`, bits 31 to `k` of `FR` are 0 (42_readout_and_test.md R95): every step keeps this. -/
def Obligations.StepKeepsFrameBelowK : Prop :=
  ∀ s t : State, s.FrameBelowK → step s = .next t → t.FrameBelowK

/-- The window entries that `HC` marks invalid are unobservable (10_state.md R39, R23): two states that differ only there
answer the same response and stay different only there. The zeros the model puts there at reset are its own choice
(log entry 5), and this statement holds for any. -/
def Obligations.InvalidWindowIsUnobservable : Prop :=
  ∀ s t s' : State, s.Inv → s.SameValid t → step s = .next s' →
    ∃ t', step t = .next t' ∧ s'.SameValid t' ∧ s'.resp = t'.resp ∧ s'.pub = t'.pub

/-- 40_frame_assembler.md R80: a well-formed frame, from HUNT with an empty window and on either stride, is decoded: edge
`S` answers SYNC_FOUND, and edge `33*S` (`e66` or `e33`) completes the frame with its 32 bits in `FR`. -/
def Obligations.WellFormedFrameIsDecoded : Prop :=
  ∀ (s : State) (f : Frame) (e : Nat → Timestamp), s.cfg.wf → s.st = .hunt → s.hc = 0#2 →
    Spec.WellFormedFrame s.cfg f e →
    (∃ u : State, Host.Core.run core (s.cfg.stride.toNat + 1) (s.issueAll (Spec.edges (s.cfg.stride.toNat + 1) e)) = .next u ∧
      u.st = .frame ∧ u.k = 0#5 ∧ u.res = 1#8) ∧
    (∃ v : State, Host.Core.run core (33 * s.cfg.stride.toNat + 1)
        (s.issueAll (Spec.edges (33 * s.cfg.stride.toNat + 1) e)) = .next v ∧
      v.fr = f ∧ v.st = .hunt ∧ v.k = 0#5 ∧ v.ph = 0#1 ∧ v.hc = 0#2 ∧ resKind v.res = 3#3)

/-- The round trip of 95_test_vectors.md W5 and W7: a well-formed frame that carries a pair publishes exactly that pair,
for every address and command, every legal instance and every legal timing. -/
def Obligations.PairSurvivesTransmission : Prop :=
  ∀ (s : State) (a c : Byte) (e : Nat → Timestamp), s.cfg.wf → s.st = .hunt → s.hc = 0#2 →
    Spec.WellFormedFrame s.cfg (Spec.packet a c) e →
    ∃ v : State, Host.Core.run core (33 * s.cfg.stride.toNat + 1)
        (s.issueAll (Spec.edges (33 * s.cfg.stride.toNat + 1) e)) = .next v ∧
      v.lastAddr = a ∧ v.lastCmd = c ∧ v.haveLast = true ∧ v.res = 0x83#8 ∧ v.okCnt = s.okCnt + 1#8 ∧
      v.csumCnt = s.csumCnt ∧ v.desyncCnt = s.desyncCnt ∧ v.repeatCnt = s.repeatCnt

/-- One call of `assemble()` (40_frame_assembler.md R79) takes a first part of the queue, each timestamp once and in
order; it stops at the first response whose `KIND` is not NEED_MORE_DATA, and otherwise when the queue is empty. So the
block's state depends on the timestamps taken and not on how they were grouped into calls. -/
def Obligations.AssembleTakesPrefixInOrder : Prop :=
  ∀ (ts : List Timestamp) (s : State), ∃ taken,
    ts = taken ++ (assembleCall ts s).queue ∧
    (assembleCall ts s).state = taken.foldl State.afterEdgeCommand s ∧
    ((assembleCall ts s).result = none → (assembleCall ts s).queue = []) ∧
    (∀ r, (assembleCall ts s).result = some r → isResult r = true ∧ (assembleCall ts s).state.resp = some r) ∧
    (∀ first t last, taken = first ++ t :: last → ((assembleCall ts s).result = none ∨ last ≠ []) →
      ∀ r, ((first ++ [t]).foldl State.afterEdgeCommand s).resp = some r → isResult r = false)

/-- The hazard of a dropped edge (70_reset_and_hazards.md R123), with the default table: a pair of exactly 1125 or 2250
ticks plus a mark of 176 to 974 ticks is in no band, and at 175 and 975 ticks one such sum is in a bit band. -/
def Obligations.DroppedEdgeSumsAreInvalid : Prop :=
  ∀ s : State, s.cfg = Params.default →
    (∀ mark : Nat, 176 ≤ mark → mark ≤ 974 →
      exec (.classify (BitVec.ofNat 16 (1125 + mark))) s = .next (Spec.answer s 0) ∧
      exec (.classify (BitVec.ofNat 16 (2250 + mark))) s = .next (Spec.answer s 0)) ∧
    exec (.classify (BitVec.ofNat 16 (1125 + 175))) s = .next (Spec.answer s 3) ∧
    exec (.classify (BitVec.ofNat 16 (1125 + 975))) s = .next (Spec.answer s 4)
end

