-- ==== Sys2Proof/Laws/Decode.lean ====
section
/-! SUPPORT. The fields of an encoded command, and the decoder by its two tests. -/

namespace Sys2Proof

/-- The four fields of a word built from four fields (30_encoding.md R55). -/
theorem fields_of_append (o r : BitVec 8) (b : BitVec 16) (a : BitVec 32) :
    opcField (o ++ r ++ b ++ a) = o ∧ rsvField (o ++ r ++ b ++ a) = r ∧ bField (o ++ r ++ b ++ a) = b ∧
      aField (o ++ r ++ b ++ a) = a := by
  refine ⟨?_, ?_, ?_, ?_⟩ <;>
    (ext j hj
     rw [← BitVec.getLsbD_eq_getElem, ← BitVec.getLsbD_eq_getElem]
     simp only [opcField, rsvField, bField, aField, BitVec.getLsbD_extractLsb', BitVec.getLsbD_append, hj,
       decide_true, Bool.true_and]
     split_ifs <;> first | omega | (congr 1; omega))

theorem decode_of_rsv {w : CmdWord} (h : rsvField w ≠ 0#8) : decode w = .error .reservedBits := by simp [decode, h]

theorem decode_of_command {w : CmdWord} {i : Instr} (h : rsvField w = 0#8)
    (hc : commandOf (opcField w) (bField w) (aField w) = some i) : decode w = .ok i := by simp [decode, h, hc]

theorem decode_of_unassigned {w : CmdWord} (h : rsvField w = 0#8)
    (hc : commandOf (opcField w) (bField w) (aField w) = none) : decode w = .error .unassignedOpcode := by
  simp [decode, h, hc]

/-- A word decodes to a command exactly when `RSV` is 0 and its opcode's row gives that command. -/
theorem decode_eq_ok {w : CmdWord} {i : Instr} :
    decode w = .ok i ↔ rsvField w = 0#8 ∧ commandOf (opcField w) (bField w) (aField w) = some i := by
  by_cases h : rsvField w = 0#8
  · cases hc : commandOf (opcField w) (bField w) (aField w) <;> simp [decode, h, hc]
  · simp [decode, h]

end Sys2Proof
end

