-- ==== Sys2Proof/Laws/State.lean ====
section
/-! SUPPORT. One lemma per field per update of the state, each true by `rfl`: what each operation of Machine/Ops.lean
writes and what it leaves alone. -/

namespace Sys2Proof.Machine

variable (s : State)

/-! ### `State.take` -/

@[simp] theorem State.take_cfg : s.take.cfg = s.cfg := rfl
@[simp] theorem State.take_st : s.take.st = s.st := rfl
@[simp] theorem State.take_k : s.take.k = s.k := rfl
@[simp] theorem State.take_ph : s.take.ph = s.ph := rfl
@[simp] theorem State.take_hc : s.take.hc = s.hc := rfl
@[simp] theorem State.take_w0 : s.take.w0 = s.w0 := rfl
@[simp] theorem State.take_w1 : s.take.w1 = s.w1 := rfl
@[simp] theorem State.take_fr : s.take.fr = s.fr := rfl
@[simp] theorem State.take_res : s.take.res = s.res := rfl
@[simp] theorem State.take_lastAddr : s.take.lastAddr = s.lastAddr := rfl
@[simp] theorem State.take_lastCmd : s.take.lastCmd = s.lastCmd := rfl
@[simp] theorem State.take_haveLast : s.take.haveLast = s.haveLast := rfl
@[simp] theorem State.take_cmdErr : s.take.cmdErr = s.cmdErr := rfl
@[simp] theorem State.take_okCnt : s.take.okCnt = s.okCnt := rfl
@[simp] theorem State.take_csumCnt : s.take.csumCnt = s.csumCnt := rfl
@[simp] theorem State.take_desyncCnt : s.take.desyncCnt = s.desyncCnt := rfl
@[simp] theorem State.take_repeatCnt : s.take.repeatCnt = s.repeatCnt := rfl
@[simp] theorem State.take_inputs : s.take.inputs = s.inputs.tail := rfl
@[simp] theorem State.take_resp : s.take.resp = s.resp := rfl

/-! ### `State.offerWord` -/

@[simp] theorem State.offerWord_cfg (w : CmdWord) : (s.offerWord w).cfg = s.cfg := rfl
@[simp] theorem State.offerWord_st (w : CmdWord) : (s.offerWord w).st = s.st := rfl
@[simp] theorem State.offerWord_k (w : CmdWord) : (s.offerWord w).k = s.k := rfl
@[simp] theorem State.offerWord_ph (w : CmdWord) : (s.offerWord w).ph = s.ph := rfl
@[simp] theorem State.offerWord_hc (w : CmdWord) : (s.offerWord w).hc = s.hc := rfl
@[simp] theorem State.offerWord_w0 (w : CmdWord) : (s.offerWord w).w0 = s.w0 := rfl
@[simp] theorem State.offerWord_w1 (w : CmdWord) : (s.offerWord w).w1 = s.w1 := rfl
@[simp] theorem State.offerWord_fr (w : CmdWord) : (s.offerWord w).fr = s.fr := rfl
@[simp] theorem State.offerWord_res (w : CmdWord) : (s.offerWord w).res = s.res := rfl
@[simp] theorem State.offerWord_lastAddr (w : CmdWord) : (s.offerWord w).lastAddr = s.lastAddr := rfl
@[simp] theorem State.offerWord_lastCmd (w : CmdWord) : (s.offerWord w).lastCmd = s.lastCmd := rfl
@[simp] theorem State.offerWord_haveLast (w : CmdWord) : (s.offerWord w).haveLast = s.haveLast := rfl
@[simp] theorem State.offerWord_cmdErr (w : CmdWord) : (s.offerWord w).cmdErr = s.cmdErr := rfl
@[simp] theorem State.offerWord_okCnt (w : CmdWord) : (s.offerWord w).okCnt = s.okCnt := rfl
@[simp] theorem State.offerWord_csumCnt (w : CmdWord) : (s.offerWord w).csumCnt = s.csumCnt := rfl
@[simp] theorem State.offerWord_desyncCnt (w : CmdWord) : (s.offerWord w).desyncCnt = s.desyncCnt := rfl
@[simp] theorem State.offerWord_repeatCnt (w : CmdWord) : (s.offerWord w).repeatCnt = s.repeatCnt := rfl
@[simp] theorem State.offerWord_inputs (w : CmdWord) : (s.offerWord w).inputs = wordSlot w :: s.inputs := rfl
@[simp] theorem State.offerWord_resp (w : CmdWord) : (s.offerWord w).resp = s.resp := rfl

/-! ### `State.respond` -/

@[simp] theorem State.respond_cfg (v : RespWord) : (s.respond v).cfg = s.cfg := rfl
@[simp] theorem State.respond_st (v : RespWord) : (s.respond v).st = s.st := rfl
@[simp] theorem State.respond_k (v : RespWord) : (s.respond v).k = s.k := rfl
@[simp] theorem State.respond_ph (v : RespWord) : (s.respond v).ph = s.ph := rfl
@[simp] theorem State.respond_hc (v : RespWord) : (s.respond v).hc = s.hc := rfl
@[simp] theorem State.respond_w0 (v : RespWord) : (s.respond v).w0 = s.w0 := rfl
@[simp] theorem State.respond_w1 (v : RespWord) : (s.respond v).w1 = s.w1 := rfl
@[simp] theorem State.respond_fr (v : RespWord) : (s.respond v).fr = s.fr := rfl
@[simp] theorem State.respond_res (v : RespWord) : (s.respond v).res = s.res := rfl
@[simp] theorem State.respond_lastAddr (v : RespWord) : (s.respond v).lastAddr = s.lastAddr := rfl
@[simp] theorem State.respond_lastCmd (v : RespWord) : (s.respond v).lastCmd = s.lastCmd := rfl
@[simp] theorem State.respond_haveLast (v : RespWord) : (s.respond v).haveLast = s.haveLast := rfl
@[simp] theorem State.respond_cmdErr (v : RespWord) : (s.respond v).cmdErr = s.cmdErr := rfl
@[simp] theorem State.respond_okCnt (v : RespWord) : (s.respond v).okCnt = s.okCnt := rfl
@[simp] theorem State.respond_csumCnt (v : RespWord) : (s.respond v).csumCnt = s.csumCnt := rfl
@[simp] theorem State.respond_desyncCnt (v : RespWord) : (s.respond v).desyncCnt = s.desyncCnt := rfl
@[simp] theorem State.respond_repeatCnt (v : RespWord) : (s.respond v).repeatCnt = s.repeatCnt := rfl
@[simp] theorem State.respond_inputs (v : RespWord) : (s.respond v).inputs = s.inputs := rfl
@[simp] theorem State.respond_resp (v : RespWord) : (s.respond v).resp = some v := rfl

/-! ### `State.idle` -/

@[simp] theorem State.idle_cfg : s.idle.cfg = s.cfg := rfl
@[simp] theorem State.idle_st : s.idle.st = s.st := rfl
@[simp] theorem State.idle_k : s.idle.k = s.k := rfl
@[simp] theorem State.idle_ph : s.idle.ph = s.ph := rfl
@[simp] theorem State.idle_hc : s.idle.hc = s.hc := rfl
@[simp] theorem State.idle_w0 : s.idle.w0 = s.w0 := rfl
@[simp] theorem State.idle_w1 : s.idle.w1 = s.w1 := rfl
@[simp] theorem State.idle_fr : s.idle.fr = s.fr := rfl
@[simp] theorem State.idle_res : s.idle.res = s.res := rfl
@[simp] theorem State.idle_lastAddr : s.idle.lastAddr = s.lastAddr := rfl
@[simp] theorem State.idle_lastCmd : s.idle.lastCmd = s.lastCmd := rfl
@[simp] theorem State.idle_haveLast : s.idle.haveLast = s.haveLast := rfl
@[simp] theorem State.idle_cmdErr : s.idle.cmdErr = s.cmdErr := rfl
@[simp] theorem State.idle_okCnt : s.idle.okCnt = s.okCnt := rfl
@[simp] theorem State.idle_csumCnt : s.idle.csumCnt = s.csumCnt := rfl
@[simp] theorem State.idle_desyncCnt : s.idle.desyncCnt = s.desyncCnt := rfl
@[simp] theorem State.idle_repeatCnt : s.idle.repeatCnt = s.repeatCnt := rfl
@[simp] theorem State.idle_inputs : s.idle.inputs = s.inputs := rfl
@[simp] theorem State.idle_resp : s.idle.resp = none := rfl

/-! ### `State.restart` -/

@[simp] theorem State.restart_cfg : s.restart.cfg = s.cfg := rfl
@[simp] theorem State.restart_st : s.restart.st = .hunt := rfl
@[simp] theorem State.restart_k : s.restart.k = 0#5 := rfl
@[simp] theorem State.restart_ph : s.restart.ph = 0#1 := rfl
@[simp] theorem State.restart_hc : s.restart.hc = 0#2 := rfl
@[simp] theorem State.restart_w0 : s.restart.w0 = 0#16 := rfl
@[simp] theorem State.restart_w1 : s.restart.w1 = 0#16 := rfl
@[simp] theorem State.restart_fr : s.restart.fr = 0#32 := rfl
@[simp] theorem State.restart_res : s.restart.res = 0#8 := rfl
@[simp] theorem State.restart_lastAddr : s.restart.lastAddr = 0#8 := rfl
@[simp] theorem State.restart_lastCmd : s.restart.lastCmd = 0#8 := rfl
@[simp] theorem State.restart_haveLast : s.restart.haveLast = false := rfl
@[simp] theorem State.restart_cmdErr : s.restart.cmdErr = false := rfl
@[simp] theorem State.restart_okCnt : s.restart.okCnt = 0#8 := rfl
@[simp] theorem State.restart_csumCnt : s.restart.csumCnt = 0#8 := rfl
@[simp] theorem State.restart_desyncCnt : s.restart.desyncCnt = 0#8 := rfl
@[simp] theorem State.restart_repeatCnt : s.restart.repeatCnt = 0#8 := rfl
@[simp] theorem State.restart_inputs : s.restart.inputs = s.inputs := rfl
@[simp] theorem State.restart_resp : s.restart.resp = none := rfl

/-! ### `State.illegalCommand` -/

@[simp] theorem State.illegalCommand_cfg : s.illegalCommand.cfg = s.cfg := rfl
@[simp] theorem State.illegalCommand_st : s.illegalCommand.st = s.st := rfl
@[simp] theorem State.illegalCommand_k : s.illegalCommand.k = s.k := rfl
@[simp] theorem State.illegalCommand_ph : s.illegalCommand.ph = s.ph := rfl
@[simp] theorem State.illegalCommand_hc : s.illegalCommand.hc = s.hc := rfl
@[simp] theorem State.illegalCommand_w0 : s.illegalCommand.w0 = s.w0 := rfl
@[simp] theorem State.illegalCommand_w1 : s.illegalCommand.w1 = s.w1 := rfl
@[simp] theorem State.illegalCommand_fr : s.illegalCommand.fr = s.fr := rfl
@[simp] theorem State.illegalCommand_res : s.illegalCommand.res = s.res := rfl
@[simp] theorem State.illegalCommand_lastAddr : s.illegalCommand.lastAddr = s.lastAddr := rfl
@[simp] theorem State.illegalCommand_lastCmd : s.illegalCommand.lastCmd = s.lastCmd := rfl
@[simp] theorem State.illegalCommand_haveLast : s.illegalCommand.haveLast = s.haveLast := rfl
@[simp] theorem State.illegalCommand_cmdErr : s.illegalCommand.cmdErr = true := rfl
@[simp] theorem State.illegalCommand_okCnt : s.illegalCommand.okCnt = s.okCnt := rfl
@[simp] theorem State.illegalCommand_csumCnt : s.illegalCommand.csumCnt = s.csumCnt := rfl
@[simp] theorem State.illegalCommand_desyncCnt : s.illegalCommand.desyncCnt = s.desyncCnt := rfl
@[simp] theorem State.illegalCommand_repeatCnt : s.illegalCommand.repeatCnt = s.repeatCnt := rfl
@[simp] theorem State.illegalCommand_inputs : s.illegalCommand.inputs = s.inputs := rfl
@[simp] theorem State.illegalCommand_resp : s.illegalCommand.resp = some 0#32 := rfl

/-! ### `State.shiftWindow` -/

@[simp] theorem State.shiftWindow_cfg (t : Timestamp) : (s.shiftWindow t).cfg = s.cfg := rfl
@[simp] theorem State.shiftWindow_st (t : Timestamp) : (s.shiftWindow t).st = s.st := rfl
@[simp] theorem State.shiftWindow_k (t : Timestamp) : (s.shiftWindow t).k = s.k := rfl
@[simp] theorem State.shiftWindow_ph (t : Timestamp) : (s.shiftWindow t).ph = s.nextPhase := rfl
@[simp] theorem State.shiftWindow_hc (t : Timestamp) : (s.shiftWindow t).hc = s.shiftedHc := rfl
@[simp] theorem State.shiftWindow_w0 (t : Timestamp) : (s.shiftWindow t).w0 = s.shiftedW0 t := rfl
@[simp] theorem State.shiftWindow_w1 (t : Timestamp) : (s.shiftWindow t).w1 = s.shiftedW1 t := rfl
@[simp] theorem State.shiftWindow_fr (t : Timestamp) : (s.shiftWindow t).fr = s.fr := rfl
@[simp] theorem State.shiftWindow_res (t : Timestamp) : (s.shiftWindow t).res = s.res := rfl
@[simp] theorem State.shiftWindow_lastAddr (t : Timestamp) : (s.shiftWindow t).lastAddr = s.lastAddr := rfl
@[simp] theorem State.shiftWindow_lastCmd (t : Timestamp) : (s.shiftWindow t).lastCmd = s.lastCmd := rfl
@[simp] theorem State.shiftWindow_haveLast (t : Timestamp) : (s.shiftWindow t).haveLast = s.haveLast := rfl
@[simp] theorem State.shiftWindow_cmdErr (t : Timestamp) : (s.shiftWindow t).cmdErr = s.cmdErr := rfl
@[simp] theorem State.shiftWindow_okCnt (t : Timestamp) : (s.shiftWindow t).okCnt = s.okCnt := rfl
@[simp] theorem State.shiftWindow_csumCnt (t : Timestamp) : (s.shiftWindow t).csumCnt = s.csumCnt := rfl
@[simp] theorem State.shiftWindow_desyncCnt (t : Timestamp) : (s.shiftWindow t).desyncCnt = s.desyncCnt := rfl
@[simp] theorem State.shiftWindow_repeatCnt (t : Timestamp) : (s.shiftWindow t).repeatCnt = s.repeatCnt := rfl
@[simp] theorem State.shiftWindow_inputs (t : Timestamp) : (s.shiftWindow t).inputs = s.inputs := rfl
@[simp] theorem State.shiftWindow_resp (t : Timestamp) : (s.shiftWindow t).resp = s.resp := rfl

/-! ### `State.setRes` -/

@[simp] theorem State.setRes_cfg (r : Byte) : (s.setRes r).cfg = s.cfg := rfl
@[simp] theorem State.setRes_st (r : Byte) : (s.setRes r).st = s.st := rfl
@[simp] theorem State.setRes_k (r : Byte) : (s.setRes r).k = s.k := rfl
@[simp] theorem State.setRes_ph (r : Byte) : (s.setRes r).ph = s.ph := rfl
@[simp] theorem State.setRes_hc (r : Byte) : (s.setRes r).hc = s.hc := rfl
@[simp] theorem State.setRes_w0 (r : Byte) : (s.setRes r).w0 = s.w0 := rfl
@[simp] theorem State.setRes_w1 (r : Byte) : (s.setRes r).w1 = s.w1 := rfl
@[simp] theorem State.setRes_fr (r : Byte) : (s.setRes r).fr = s.fr := rfl
@[simp] theorem State.setRes_res (r : Byte) : (s.setRes r).res = r := rfl
@[simp] theorem State.setRes_lastAddr (r : Byte) : (s.setRes r).lastAddr = s.lastAddr := rfl
@[simp] theorem State.setRes_lastCmd (r : Byte) : (s.setRes r).lastCmd = s.lastCmd := rfl
@[simp] theorem State.setRes_haveLast (r : Byte) : (s.setRes r).haveLast = s.haveLast := rfl
@[simp] theorem State.setRes_cmdErr (r : Byte) : (s.setRes r).cmdErr = s.cmdErr := rfl
@[simp] theorem State.setRes_okCnt (r : Byte) : (s.setRes r).okCnt = s.okCnt := rfl
@[simp] theorem State.setRes_csumCnt (r : Byte) : (s.setRes r).csumCnt = s.csumCnt := rfl
@[simp] theorem State.setRes_desyncCnt (r : Byte) : (s.setRes r).desyncCnt = s.desyncCnt := rfl
@[simp] theorem State.setRes_repeatCnt (r : Byte) : (s.setRes r).repeatCnt = s.repeatCnt := rfl
@[simp] theorem State.setRes_inputs (r : Byte) : (s.setRes r).inputs = s.inputs := rfl
@[simp] theorem State.setRes_resp (r : Byte) : (s.setRes r).resp = s.resp := rfl

/-! ### `State.startFrame` -/

@[simp] theorem State.startFrame_cfg : s.startFrame.cfg = s.cfg := rfl
@[simp] theorem State.startFrame_st : s.startFrame.st = .frame := rfl
@[simp] theorem State.startFrame_k : s.startFrame.k = 0#5 := rfl
@[simp] theorem State.startFrame_ph : s.startFrame.ph = 0#1 := rfl
@[simp] theorem State.startFrame_hc : s.startFrame.hc = s.hc := rfl
@[simp] theorem State.startFrame_w0 : s.startFrame.w0 = s.w0 := rfl
@[simp] theorem State.startFrame_w1 : s.startFrame.w1 = s.w1 := rfl
@[simp] theorem State.startFrame_fr : s.startFrame.fr = 0#32 := rfl
@[simp] theorem State.startFrame_res : s.startFrame.res = packRes .syncFound .none 0#2 false := rfl
@[simp] theorem State.startFrame_lastAddr : s.startFrame.lastAddr = s.lastAddr := rfl
@[simp] theorem State.startFrame_lastCmd : s.startFrame.lastCmd = s.lastCmd := rfl
@[simp] theorem State.startFrame_haveLast : s.startFrame.haveLast = s.haveLast := rfl
@[simp] theorem State.startFrame_cmdErr : s.startFrame.cmdErr = s.cmdErr := rfl
@[simp] theorem State.startFrame_okCnt : s.startFrame.okCnt = s.okCnt := rfl
@[simp] theorem State.startFrame_csumCnt : s.startFrame.csumCnt = s.csumCnt := rfl
@[simp] theorem State.startFrame_desyncCnt : s.startFrame.desyncCnt = s.desyncCnt := rfl
@[simp] theorem State.startFrame_repeatCnt : s.startFrame.repeatCnt = s.repeatCnt := rfl
@[simp] theorem State.startFrame_inputs : s.startFrame.inputs = s.inputs := rfl
@[simp] theorem State.startFrame_resp : s.startFrame.resp = s.resp := rfl

/-! ### `State.repeatCode` -/

@[simp] theorem State.repeatCode_cfg : s.repeatCode.cfg = s.cfg := rfl
@[simp] theorem State.repeatCode_st : s.repeatCode.st = s.st := rfl
@[simp] theorem State.repeatCode_k : s.repeatCode.k = s.k := rfl
@[simp] theorem State.repeatCode_ph : s.repeatCode.ph = s.ph := rfl
@[simp] theorem State.repeatCode_hc : s.repeatCode.hc = 0#2 := rfl
@[simp] theorem State.repeatCode_w0 : s.repeatCode.w0 = s.w0 := rfl
@[simp] theorem State.repeatCode_w1 : s.repeatCode.w1 = s.w1 := rfl
@[simp] theorem State.repeatCode_fr : s.repeatCode.fr = s.fr := rfl
@[simp] theorem State.repeatCode_res : s.repeatCode.res = packRes .repeatCode .none 0#2 s.haveLast := rfl
@[simp] theorem State.repeatCode_lastAddr : s.repeatCode.lastAddr = s.lastAddr := rfl
@[simp] theorem State.repeatCode_lastCmd : s.repeatCode.lastCmd = s.lastCmd := rfl
@[simp] theorem State.repeatCode_haveLast : s.repeatCode.haveLast = s.haveLast := rfl
@[simp] theorem State.repeatCode_cmdErr : s.repeatCode.cmdErr = s.cmdErr := rfl
@[simp] theorem State.repeatCode_okCnt : s.repeatCode.okCnt = s.okCnt := rfl
@[simp] theorem State.repeatCode_csumCnt : s.repeatCode.csumCnt = s.csumCnt := rfl
@[simp] theorem State.repeatCode_desyncCnt : s.repeatCode.desyncCnt = s.desyncCnt := rfl
@[simp] theorem State.repeatCode_repeatCnt : s.repeatCode.repeatCnt = s.repeatCnt + 1#8 := rfl
@[simp] theorem State.repeatCode_inputs : s.repeatCode.inputs = s.inputs := rfl
@[simp] theorem State.repeatCode_resp : s.repeatCode.resp = s.resp := rfl

/-! ### `State.desync` -/

@[simp] theorem State.desync_cfg (q : DesyncReason) : (s.desync q).cfg = s.cfg := rfl
@[simp] theorem State.desync_st (q : DesyncReason) : (s.desync q).st = .hunt := rfl
@[simp] theorem State.desync_k (q : DesyncReason) : (s.desync q).k = 0#5 := rfl
@[simp] theorem State.desync_ph (q : DesyncReason) : (s.desync q).ph = 0#1 := rfl
@[simp] theorem State.desync_hc (q : DesyncReason) : (s.desync q).hc = s.hc := rfl
@[simp] theorem State.desync_w0 (q : DesyncReason) : (s.desync q).w0 = s.w0 := rfl
@[simp] theorem State.desync_w1 (q : DesyncReason) : (s.desync q).w1 = s.w1 := rfl
@[simp] theorem State.desync_fr (q : DesyncReason) : (s.desync q).fr = s.fr := rfl
@[simp] theorem State.desync_res (q : DesyncReason) : (s.desync q).res = packRes .desync q 0#2 false := rfl
@[simp] theorem State.desync_lastAddr (q : DesyncReason) : (s.desync q).lastAddr = s.lastAddr := rfl
@[simp] theorem State.desync_lastCmd (q : DesyncReason) : (s.desync q).lastCmd = s.lastCmd := rfl
@[simp] theorem State.desync_haveLast (q : DesyncReason) : (s.desync q).haveLast = s.haveLast := rfl
@[simp] theorem State.desync_cmdErr (q : DesyncReason) : (s.desync q).cmdErr = s.cmdErr := rfl
@[simp] theorem State.desync_okCnt (q : DesyncReason) : (s.desync q).okCnt = s.okCnt := rfl
@[simp] theorem State.desync_csumCnt (q : DesyncReason) : (s.desync q).csumCnt = s.csumCnt := rfl
@[simp] theorem State.desync_desyncCnt (q : DesyncReason) : (s.desync q).desyncCnt = s.desyncCnt + 1#8 := rfl
@[simp] theorem State.desync_repeatCnt (q : DesyncReason) : (s.desync q).repeatCnt = s.repeatCnt := rfl
@[simp] theorem State.desync_inputs (q : DesyncReason) : (s.desync q).inputs = s.inputs := rfl
@[simp] theorem State.desync_resp (q : DesyncReason) : (s.desync q).resp = s.resp := rfl

/-! ### `State.keepBit` -/

@[simp] theorem State.keepBit_cfg (f : Frame) : (s.keepBit f).cfg = s.cfg := rfl
@[simp] theorem State.keepBit_st (f : Frame) : (s.keepBit f).st = s.st := rfl
@[simp] theorem State.keepBit_k (f : Frame) : (s.keepBit f).k = s.k + 1#5 := rfl
@[simp] theorem State.keepBit_ph (f : Frame) : (s.keepBit f).ph = s.ph := rfl
@[simp] theorem State.keepBit_hc (f : Frame) : (s.keepBit f).hc = s.hc := rfl
@[simp] theorem State.keepBit_w0 (f : Frame) : (s.keepBit f).w0 = s.w0 := rfl
@[simp] theorem State.keepBit_w1 (f : Frame) : (s.keepBit f).w1 = s.w1 := rfl
@[simp] theorem State.keepBit_fr (f : Frame) : (s.keepBit f).fr = f := rfl
@[simp] theorem State.keepBit_res (f : Frame) : (s.keepBit f).res = resNeedMoreData := rfl
@[simp] theorem State.keepBit_lastAddr (f : Frame) : (s.keepBit f).lastAddr = s.lastAddr := rfl
@[simp] theorem State.keepBit_lastCmd (f : Frame) : (s.keepBit f).lastCmd = s.lastCmd := rfl
@[simp] theorem State.keepBit_haveLast (f : Frame) : (s.keepBit f).haveLast = s.haveLast := rfl
@[simp] theorem State.keepBit_cmdErr (f : Frame) : (s.keepBit f).cmdErr = s.cmdErr := rfl
@[simp] theorem State.keepBit_okCnt (f : Frame) : (s.keepBit f).okCnt = s.okCnt := rfl
@[simp] theorem State.keepBit_csumCnt (f : Frame) : (s.keepBit f).csumCnt = s.csumCnt := rfl
@[simp] theorem State.keepBit_desyncCnt (f : Frame) : (s.keepBit f).desyncCnt = s.desyncCnt := rfl
@[simp] theorem State.keepBit_repeatCnt (f : Frame) : (s.keepBit f).repeatCnt = s.repeatCnt := rfl
@[simp] theorem State.keepBit_inputs (f : Frame) : (s.keepBit f).inputs = s.inputs := rfl
@[simp] theorem State.keepBit_resp (f : Frame) : (s.keepBit f).resp = s.resp := rfl

/-! ### `State.endFrame` -/

@[simp] theorem State.endFrame_cfg (f : Frame) (r : Byte) : (s.endFrame f r).cfg = s.cfg := rfl
@[simp] theorem State.endFrame_st (f : Frame) (r : Byte) : (s.endFrame f r).st = .hunt := rfl
@[simp] theorem State.endFrame_k (f : Frame) (r : Byte) : (s.endFrame f r).k = 0#5 := rfl
@[simp] theorem State.endFrame_ph (f : Frame) (r : Byte) : (s.endFrame f r).ph = 0#1 := rfl
@[simp] theorem State.endFrame_hc (f : Frame) (r : Byte) : (s.endFrame f r).hc = 0#2 := rfl
@[simp] theorem State.endFrame_w0 (f : Frame) (r : Byte) : (s.endFrame f r).w0 = s.w0 := rfl
@[simp] theorem State.endFrame_w1 (f : Frame) (r : Byte) : (s.endFrame f r).w1 = s.w1 := rfl
@[simp] theorem State.endFrame_fr (f : Frame) (r : Byte) : (s.endFrame f r).fr = f := rfl
@[simp] theorem State.endFrame_res (f : Frame) (r : Byte) : (s.endFrame f r).res = r := rfl
@[simp] theorem State.endFrame_lastAddr (f : Frame) (r : Byte) : (s.endFrame f r).lastAddr = s.lastAddr := rfl
@[simp] theorem State.endFrame_lastCmd (f : Frame) (r : Byte) : (s.endFrame f r).lastCmd = s.lastCmd := rfl
@[simp] theorem State.endFrame_haveLast (f : Frame) (r : Byte) : (s.endFrame f r).haveLast = s.haveLast := rfl
@[simp] theorem State.endFrame_cmdErr (f : Frame) (r : Byte) : (s.endFrame f r).cmdErr = s.cmdErr := rfl
@[simp] theorem State.endFrame_okCnt (f : Frame) (r : Byte) : (s.endFrame f r).okCnt = s.okCnt := rfl
@[simp] theorem State.endFrame_csumCnt (f : Frame) (r : Byte) : (s.endFrame f r).csumCnt = s.csumCnt := rfl
@[simp] theorem State.endFrame_desyncCnt (f : Frame) (r : Byte) : (s.endFrame f r).desyncCnt = s.desyncCnt := rfl
@[simp] theorem State.endFrame_repeatCnt (f : Frame) (r : Byte) : (s.endFrame f r).repeatCnt = s.repeatCnt := rfl
@[simp] theorem State.endFrame_inputs (f : Frame) (r : Byte) : (s.endFrame f r).inputs = s.inputs := rfl
@[simp] theorem State.endFrame_resp (f : Frame) (r : Byte) : (s.endFrame f r).resp = s.resp := rfl

/-! ### `State.publish` -/

@[simp] theorem State.publish_cfg (d : Decoded) : (s.publish d).cfg = s.cfg := rfl
@[simp] theorem State.publish_st (d : Decoded) : (s.publish d).st = s.st := rfl
@[simp] theorem State.publish_k (d : Decoded) : (s.publish d).k = s.k := rfl
@[simp] theorem State.publish_ph (d : Decoded) : (s.publish d).ph = s.ph := rfl
@[simp] theorem State.publish_hc (d : Decoded) : (s.publish d).hc = s.hc := rfl
@[simp] theorem State.publish_w0 (d : Decoded) : (s.publish d).w0 = s.w0 := rfl
@[simp] theorem State.publish_w1 (d : Decoded) : (s.publish d).w1 = s.w1 := rfl
@[simp] theorem State.publish_fr (d : Decoded) : (s.publish d).fr = s.fr := rfl
@[simp] theorem State.publish_res (d : Decoded) : (s.publish d).res = s.res := rfl
@[simp] theorem State.publish_lastAddr (d : Decoded) : (s.publish d).lastAddr = d.addr := rfl
@[simp] theorem State.publish_lastCmd (d : Decoded) : (s.publish d).lastCmd = d.cmd := rfl
@[simp] theorem State.publish_haveLast (d : Decoded) : (s.publish d).haveLast = true := rfl
@[simp] theorem State.publish_cmdErr (d : Decoded) : (s.publish d).cmdErr = s.cmdErr := rfl
@[simp] theorem State.publish_okCnt (d : Decoded) : (s.publish d).okCnt = s.okCnt + 1#8 := rfl
@[simp] theorem State.publish_csumCnt (d : Decoded) : (s.publish d).csumCnt = s.csumCnt := rfl
@[simp] theorem State.publish_desyncCnt (d : Decoded) : (s.publish d).desyncCnt = s.desyncCnt := rfl
@[simp] theorem State.publish_repeatCnt (d : Decoded) : (s.publish d).repeatCnt = s.repeatCnt := rfl
@[simp] theorem State.publish_inputs (d : Decoded) : (s.publish d).inputs = s.inputs := rfl
@[simp] theorem State.publish_resp (d : Decoded) : (s.publish d).resp = s.resp := rfl

/-! ### `State.reject` -/

@[simp] theorem State.reject_cfg : s.reject.cfg = s.cfg := rfl
@[simp] theorem State.reject_st : s.reject.st = s.st := rfl
@[simp] theorem State.reject_k : s.reject.k = s.k := rfl
@[simp] theorem State.reject_ph : s.reject.ph = s.ph := rfl
@[simp] theorem State.reject_hc : s.reject.hc = s.hc := rfl
@[simp] theorem State.reject_w0 : s.reject.w0 = s.w0 := rfl
@[simp] theorem State.reject_w1 : s.reject.w1 = s.w1 := rfl
@[simp] theorem State.reject_fr : s.reject.fr = s.fr := rfl
@[simp] theorem State.reject_res : s.reject.res = s.res := rfl
@[simp] theorem State.reject_lastAddr : s.reject.lastAddr = s.lastAddr := rfl
@[simp] theorem State.reject_lastCmd : s.reject.lastCmd = s.lastCmd := rfl
@[simp] theorem State.reject_haveLast : s.reject.haveLast = s.haveLast := rfl
@[simp] theorem State.reject_cmdErr : s.reject.cmdErr = s.cmdErr := rfl
@[simp] theorem State.reject_okCnt : s.reject.okCnt = s.okCnt := rfl
@[simp] theorem State.reject_csumCnt : s.reject.csumCnt = s.csumCnt + 1#8 := rfl
@[simp] theorem State.reject_desyncCnt : s.reject.desyncCnt = s.desyncCnt := rfl
@[simp] theorem State.reject_repeatCnt : s.reject.repeatCnt = s.repeatCnt := rfl
@[simp] theorem State.reject_inputs : s.reject.inputs = s.inputs := rfl
@[simp] theorem State.reject_resp : s.reject.resp = s.resp := rfl

@[simp] theorem State.resetOf_cfg (p : Params) : (State.resetOf p).cfg = p := rfl
@[simp] theorem State.resetOf_st (p : Params) : (State.resetOf p).st = .hunt := rfl
@[simp] theorem State.resetOf_k (p : Params) : (State.resetOf p).k = 0#5 := rfl
@[simp] theorem State.resetOf_ph (p : Params) : (State.resetOf p).ph = 0#1 := rfl
@[simp] theorem State.resetOf_hc (p : Params) : (State.resetOf p).hc = 0#2 := rfl
@[simp] theorem State.resetOf_w0 (p : Params) : (State.resetOf p).w0 = 0#16 := rfl
@[simp] theorem State.resetOf_w1 (p : Params) : (State.resetOf p).w1 = 0#16 := rfl
@[simp] theorem State.resetOf_fr (p : Params) : (State.resetOf p).fr = 0#32 := rfl
@[simp] theorem State.resetOf_res (p : Params) : (State.resetOf p).res = 0#8 := rfl
@[simp] theorem State.resetOf_lastAddr (p : Params) : (State.resetOf p).lastAddr = 0#8 := rfl
@[simp] theorem State.resetOf_lastCmd (p : Params) : (State.resetOf p).lastCmd = 0#8 := rfl
@[simp] theorem State.resetOf_haveLast (p : Params) : (State.resetOf p).haveLast = false := rfl
@[simp] theorem State.resetOf_cmdErr (p : Params) : (State.resetOf p).cmdErr = false := rfl
@[simp] theorem State.resetOf_okCnt (p : Params) : (State.resetOf p).okCnt = 0#8 := rfl
@[simp] theorem State.resetOf_csumCnt (p : Params) : (State.resetOf p).csumCnt = 0#8 := rfl
@[simp] theorem State.resetOf_desyncCnt (p : Params) : (State.resetOf p).desyncCnt = 0#8 := rfl
@[simp] theorem State.resetOf_repeatCnt (p : Params) : (State.resetOf p).repeatCnt = 0#8 := rfl
@[simp] theorem State.resetOf_inputs (p : Params) : (State.resetOf p).inputs = [] := rfl
@[simp] theorem State.resetOf_resp (p : Params) : (State.resetOf p).resp = none := rfl

end Sys2Proof.Machine
end

