-- ==== Sys2Proof/Laws/Ops.lean ====
section
/-! SUPPORT. What each shared operation can do, said once: the functions in numbers, the fields of `RES`, the port, and
the cases of an EDGE. Later proofs cite these and do not unfold the operations. -/

namespace Sys2Proof

theorem Stride.toNat_cases (x : Stride) : (x = .one ∧ x.toNat = 1) ∨ (x = .two ∧ x.toNat = 2) := by
  cases x <;> simp [Stride.toNat]

@[simp] theorem Stride.toNat_one : Stride.one.toNat = 1 := rfl
@[simp] theorem Stride.toNat_two : Stride.two.toNat = 2 := rfl

namespace Machine

/-! ### The fields of `RES` -/

@[simp] theorem resKind_packRes (x : ResultKind) (q : DesyncReason) (c : BitVec 2) (b : Bool) :
    resKind (packRes x q c b) = x.code := by
  revert c; cases x <;> cases q <;> cases b <;> decide

@[simp] theorem resReason_packRes (x : ResultKind) (q : DesyncReason) (c : BitVec 2) (b : Bool) :
    resReason (packRes x q c b) = q.code := by
  revert c; cases x <;> cases q <;> cases b <;> decide

@[simp] theorem resCsum_packRes (x : ResultKind) (q : DesyncReason) (c : BitVec 2) (b : Bool) :
    resCsum (packRes x q c b) = c := by
  revert c; cases x <;> cases q <;> cases b <;> decide

@[simp] theorem resPub_packRes (x : ResultKind) (q : DesyncReason) (c : BitVec 2) (b : Bool) :
    resPub (packRes x q c b) = b := by
  revert c; cases x <;> cases q <;> cases b <;> decide

theorem resNeedMoreData_eq : resNeedMoreData = 0#8 := by decide

/-! ### `unwrap`, `classify` and the validator -/

/-- For a legal instance the interval is the integer difference modulo `M`: 16 bits lose nothing. -/
theorem unwrapInterval_toNat {p : Params} (hp : p.wf) (e l : Timestamp) :
    (unwrapInterval p e l).toNat = (((l.toNat : Int) - (e.toNat : Int)) % (p.m : Int)).toNat := by
  obtain ⟨h1, h2⟩ := hp
  have hm : (0 : Int) < (p.m : Int) := by omega
  have a := Int.emod_nonneg ((l.toNat : Int) - (e.toNat : Int)) (show (p.m : Int) ≠ 0 by omega)
  have b := Int.emod_lt_of_pos ((l.toNat : Int) - (e.toNat : Int)) hm
  simp only [unwrapInterval, BitVec.toNat_ofInt]
  congr 1
  apply Int.emod_eq_of_lt a
  have : (2 ^ 16 : Nat) = 65536 := by decide
  omega

/-- An interval of a legal instance is below `M`. -/
theorem unwrapInterval_lt {p : Params} (hp : p.wf) (e l : Timestamp) : (unwrapInterval p e l).toNat < p.m := by
  rw [unwrapInterval_toNat hp]
  obtain ⟨h1, h2⟩ := hp
  have a := Int.emod_nonneg ((l.toNat : Int) - (e.toNat : Int)) (show (p.m : Int) ≠ 0 by omega)
  have b := Int.emod_lt_of_pos ((l.toNat : Int) - (e.toNat : Int)) (show (0 : Int) < (p.m : Int) by omega)
  omega

theorem inBand_iff (lo hi iv : Interval) : inBand lo hi iv = true ↔ lo.toNat ≤ iv.toNat ∧ iv.toNat ≤ hi.toNat := by
  simp [inBand]

theorem ofBool_eq_zero (b : Bool) : BitVec.ofBool b = 0#1 ↔ b = false := by cases b <;> decide

/-- The mask of a frame is 0 exactly when both checks pass. -/
theorem decodeFrame_mask_eq_zero (f : Frame) :
    (decodeFrame f).mask = 0#2 ↔
      f.extractLsb' 0 8 ^^^ f.extractLsb' 8 8 = 0xFF#8 ∧ f.extractLsb' 16 8 ^^^ f.extractLsb' 24 8 = 0xFF#8 := by
  have key : ∀ a b : Bool, BitVec.ofBool a ++ BitVec.ofBool b = 0#2 ↔ a = false ∧ b = false := by decide
  simp only [decodeFrame, key, bne_eq_false_iff_eq]
  exact and_comm

/-! ### The command port -/

theorem offered_nil {s : State} (h : s.inputs = []) : s.offered = .idle := by simp [State.offered, h]

theorem offered_reset {s : State} {slot : PortSlot} {rest : List PortSlot} (h : s.inputs = slot :: rest)
    (hr : slot.reset = true) : s.offered = .reset := by simp [State.offered, h, hr]

theorem offered_none {s : State} {slot : PortSlot} {rest : List PortSlot} (h : s.inputs = slot :: rest)
    (hr : slot.reset = false) (hc : slot.command = none) : s.offered = .idle := by simp [State.offered, h, hr, hc]

theorem offered_command {s : State} {slot : PortSlot} {rest : List PortSlot} {w : CmdWord}
    (h : s.inputs = slot :: rest) (hr : slot.reset = false) (hc : slot.command = some w) :
    s.offered = .command w := by simp [State.offered, h, hr, hc]

theorem offered_offerWord (s : State) (w : CmdWord) : (s.offerWord w).offered = .command w := rfl

theorem take_of_cons {s : State} {slot : PortSlot} {rest : List PortSlot} (h : s.inputs = slot :: rest) :
    s.take = { s with inputs := rest } := by simp [State.take, h]

theorem take_offerWord (s : State) (w : CmdWord) : (s.offerWord w).take = s := rfl

/-! ### The window -/

/-- With `HC = 0` no window entry holds a value (10_state.md R22). -/
theorem entry?_of_hc_zero {s : State} (h : s.hc = 0#2) (j : Nat) : s.entry? j = none := by
  simp only [State.entry?, h]
  exact if_neg (by simp)

/-- On the stride 2, `W[0]` is valid when `HC = 2` and `W[1]` when `HC` is 1 or 2. -/
theorem entry?_two {s : State} (hs : s.cfg.stride = .two) :
    s.entry? 0 = (if 2 ≤ s.hc.toNat then some s.w0 else none) ∧
      s.entry? 1 = (if 1 ≤ s.hc.toNat then some s.w1 else none) := by
  have h : (2 ≤ 1 + s.hc.toNat) ↔ 1 ≤ s.hc.toNat := by omega
  simp [State.entry?, hs, Nat.sub_eq_zero_iff_le, h]

/-- On the stride 1, `W[0]` is valid when `HC` is not 0, and there is no `W[1]`. -/
theorem entry?_one {s : State} (hs : s.cfg.stride = .one) :
    s.entry? 0 = (if 1 ≤ s.hc.toNat then some s.w0 else none) ∧ s.entry? 1 = none := by
  simp [State.entry?, hs, Nat.sub_eq_zero_iff_le]

/-! ### The parts of an EDGE -/

theorem measured_hunt {s : State} (h : s.st = .hunt) (t : Timestamp) :
    s.measured t = if s.hc.toNat = s.cfg.stride.toNat then some (unwrapInterval s.cfg s.w0 t) else none := by
  simp [State.measured, h, State.anchor]

theorem measured_frame {s : State} (h : s.st = .frame) (t : Timestamp) :
    s.measured t = if s.ph.toNat = s.cfg.stride.toNat - 1 then some (unwrapInterval s.cfg s.w0 t) else none := by
  simp [State.measured, h, State.anchor]

@[simp] theorem shiftedHc_toNat (s : State) :
    s.shiftedHc.toNat = min (s.hc.toNat + 1) s.cfg.stride.toNat := by
  have := s.cfg.stride.toNat_cases
  simp only [State.shiftedHc, BitVec.toNat_ofNat]
  omega

/-- An accepted bit either completes the frame, validly or not, or is kept. -/
theorem acceptBit_cases (s : State) (b : Bool) :
    (s.k ≠ 31#5 ∧ s.acceptBit b = s.keepBit (s.withBit b)) ∨
    (s.k = 31#5 ∧ (decodeFrame (s.withBit b)).mask = 0#2 ∧
      s.acceptBit b = (s.endFrame (s.withBit b) (packRes .frame .none 0#2 true)).publish (decodeFrame (s.withBit b))) ∨
    (s.k = 31#5 ∧ (decodeFrame (s.withBit b)).mask ≠ 0#2 ∧
      s.acceptBit b = (s.endFrame (s.withBit b) (packRes .frame .none (decodeFrame (s.withBit b)).mask false)).reject) := by
  by_cases hk : s.k = 31#5
  · by_cases hm : (decodeFrame (s.withBit b)).mask = 0#2
    · exact .inr (.inl ⟨hk, hm, by simp [State.acceptBit, State.completeFrame, hk, hm]⟩)
    · exact .inr (.inr ⟨hk, hm, by simp [State.acceptBit, State.completeFrame, hk, hm]⟩)
  · exact .inl ⟨hk, by simp [State.acceptBit, hk]⟩

/-- Everything a legal EDGE can do to the registers (40_frame_assembler.md R69 to R76), with its guards. -/
theorem afterEdge_cases (s : State) (t : Timestamp) :
    (s.measured t = none ∧ s.afterEdge t = (s.shiftWindow t).setRes resNeedMoreData) ∨
    ∃ iv, s.measured t = some iv ∧
      ((classifyInterval s.cfg iv = .sync ∧ s.afterEdge t = (s.shiftWindow t).startFrame) ∨
       (s.st = .hunt ∧ classifyInterval s.cfg iv = .repeatMarker ∧ s.afterEdge t = (s.shiftWindow t).repeatCode) ∨
       (s.st = .hunt ∧ classifyInterval s.cfg iv ≠ .sync ∧ classifyInterval s.cfg iv ≠ .repeatMarker ∧
         s.afterEdge t = (s.shiftWindow t).setRes resNeedMoreData) ∨
       (s.st = .frame ∧ classifyInterval s.cfg iv = .bit0 ∧ s.afterEdge t = (s.shiftWindow t).acceptBit false) ∨
       (s.st = .frame ∧ classifyInterval s.cfg iv = .bit1 ∧ s.afterEdge t = (s.shiftWindow t).acceptBit true) ∨
       (s.st = .frame ∧ classifyInterval s.cfg iv = .repeatMarker ∧
         s.afterEdge t = (s.shiftWindow t).desync .repeatInFrame) ∨
       (s.st = .frame ∧ classifyInterval s.cfg iv = .invalid ∧
         s.afterEdge t = (s.shiftWindow t).desync .invalidInterval)) := by
  cases hm : s.measured t with
  | none => exact .inl ⟨rfl, by simp [State.afterEdge, hm]⟩
  | some iv =>
    refine .inr ⟨iv, rfl, ?_⟩
    cases hst : s.st <;> cases hb : classifyInterval s.cfg iv <;>
      simp [State.afterEdge, hm, State.act, State.actHunt, State.actFrame, hst, hb]

/-- What no legal EDGE writes: the parameters, the pending inputs, `CMD_ERR` (10_state.md R38). -/
theorem afterEdge_frame (s : State) (t : Timestamp) :
    (s.afterEdge t).cfg = s.cfg ∧ (s.afterEdge t).inputs = s.inputs ∧ (s.afterEdge t).cmdErr = s.cmdErr := by
  have key : ∀ b, ((s.shiftWindow t).acceptBit b).cfg = s.cfg ∧ ((s.shiftWindow t).acceptBit b).inputs = s.inputs ∧
      ((s.shiftWindow t).acceptBit b).cmdErr = s.cmdErr := by
    intro b
    rcases acceptBit_cases (s.shiftWindow t) b with ⟨_, h⟩ | ⟨_, _, h⟩ | ⟨_, _, h⟩ <;> simp [h]
  rcases afterEdge_cases s t with ⟨_, h⟩ | ⟨iv, _, ⟨_, h⟩ | ⟨_, _, h⟩ | ⟨_, _, _, h⟩ | ⟨_, _, h⟩ | ⟨_, _, h⟩ | ⟨_, _, h⟩ | ⟨_, _, h⟩⟩ <;>
    simp [h, key]

@[simp] theorem afterEdge_cfg (s : State) (t : Timestamp) : (s.afterEdge t).cfg = s.cfg := (afterEdge_frame s t).1
@[simp] theorem afterEdge_inputs (s : State) (t : Timestamp) : (s.afterEdge t).inputs = s.inputs := (afterEdge_frame s t).2.1
@[simp] theorem afterEdge_cmdErr (s : State) (t : Timestamp) : (s.afterEdge t).cmdErr = s.cmdErr := (afterEdge_frame s t).2.2

/-- Every legal EDGE leaves the window shifted (40_frame_assembler.md R70): only `HC` may be set again. -/
theorem afterEdge_window (s : State) (t : Timestamp) :
    (s.afterEdge t).w0 = s.shiftedW0 t ∧ (s.afterEdge t).w1 = s.shiftedW1 t ∧
      ((s.afterEdge t).hc = s.shiftedHc ∨ (s.afterEdge t).hc = 0#2) := by
  have key : ∀ b, ((s.shiftWindow t).acceptBit b).w0 = s.shiftedW0 t ∧ ((s.shiftWindow t).acceptBit b).w1 = s.shiftedW1 t ∧
      (((s.shiftWindow t).acceptBit b).hc = s.shiftedHc ∨ ((s.shiftWindow t).acceptBit b).hc = 0#2) := by
    intro b
    rcases acceptBit_cases (s.shiftWindow t) b with ⟨_, h⟩ | ⟨_, _, h⟩ | ⟨_, _, h⟩ <;> simp [h]
  rcases afterEdge_cases s t with ⟨_, h⟩ | ⟨iv, _, ⟨_, h⟩ | ⟨_, _, h⟩ | ⟨_, _, _, h⟩ | ⟨_, _, h⟩ | ⟨_, _, h⟩ | ⟨_, _, h⟩ | ⟨_, _, h⟩⟩ <;>
    simp [h, key]

/-! ### The meanings of EDGE and UNWRAP, legal and not -/

theorem execEdge_legal {s : State} {t : Timestamp} (h : t.toNat < s.cfg.m) : execEdge t s = .next (s.takeEdge t) := by
  simp [execEdge, timestampLegal, h]

theorem execEdge_illegal {s : State} {t : Timestamp} (h : s.cfg.m ≤ t.toNat) : execEdge t s = .next s.illegalCommand := by
  simp [execEdge, timestampLegal, Nat.not_lt.mpr h]

theorem execUnwrap_legal {s : State} {e l : Timestamp} (he : e.toNat < s.cfg.m) (hl : l.toNat < s.cfg.m) :
    execUnwrap e l s = .next (s.respond ((unwrapInterval s.cfg e l).setWidth 32)) := by
  simp [execUnwrap, timestampLegal, he, hl]

theorem execUnwrap_illegal {s : State} {e l : Timestamp} (h : s.cfg.m ≤ e.toNat ∨ s.cfg.m ≤ l.toNat) :
    execUnwrap e l s = .next s.illegalCommand := by
  simp only [execUnwrap, timestampLegal]
  rcases h with h | h <;> simp [Nat.not_lt.mpr h]

end Machine

end Sys2Proof
end

