-- ==== Sys2Proof/Laws/PerInstr.lean ====
section
/-! SUPPORT. The statements made per command: family `EncodedFields`, the opcode and reserved fields of an encoded
command are the table's (30_encoding.md R59). -/

namespace Sys2Proof.Laws.EncodedFields

/-- The word of a command carries the command's own opcode and `RSV = 0`. -/
def Statement (i : Instr) : Prop := opcField (encode i) = i.opcode ∧ rsvField (encode i) = 0#8

theorem of_append (i : Instr) : Statement i :=
  ⟨(fields_of_append i.opcode 0#8 i.operandB i.operandA).1, (fields_of_append i.opcode 0#8 i.operandB i.operandA).2.1⟩

theorem nop : Statement .nop := of_append _
theorem edge (t : Timestamp) : Statement (.edge t) := of_append _
theorem clear : Statement .clear := of_append _
theorem getAddress : Statement .getAddress := of_append _
theorem getCommand : Statement .getCommand := of_append _
theorem getPair : Statement .getPair := of_append _
theorem getStatus : Statement .getStatus := of_append _
theorem getFrame : Statement .getFrame := of_append _
theorem getCounters : Statement .getCounters := of_append _
theorem unwrap (earlier later : Timestamp) : Statement (.unwrap earlier later) := of_append _
theorem classify (iv : Interval) : Statement (.classify iv) := of_append _
theorem decode (f : Frame) : Statement (.decode f) := of_append _

end Sys2Proof.Laws.EncodedFields
end

