-- ==== Sys2Proof/Laws/Step.lean ====
section
/-! SUPPORT. What a step can do, said once, by what the driver presents. -/

namespace Sys2Proof.Machine

theorem step_idle {s : State} (h : s.offered = .idle) : step s = .next s.take.idle := by simp [step, h]

theorem step_reset {s : State} (h : s.offered = .reset) : step s = .next s.take.restart := by simp [step, h]

theorem step_decoded {s : State} {w : CmdWord} {i : Instr} (h : s.offered = .command w) (hd : decode w = .ok i) :
    step s = exec i s.take := by simp [step, h, hd]

theorem step_rejected {s : State} {w : CmdWord} {e : DecodeError} (h : s.offered = .command w)
    (hd : decode w = .error e) : step s = .next s.take.illegalCommand := by simp [step, h, hd]

/-- Everything `exec` can do: take a legal EDGE, run CLEAR, take the illegal-command path on an operand that fails its
check, or answer a response and change nothing (20_memory.md R46). -/
theorem exec_cases (i : Instr) (s : State) :
    (∃ t, i = .edge t ∧ t.toNat < s.cfg.m ∧ exec i s = .next (s.takeEdge t)) ∨
    (i = .clear ∧ exec i s =
      .next ({ s with st := .hunt, k := 0#5, ph := 0#1, hc := 0#2, fr := 0#32, res := 0#8 }.respond 0#32)) ∨
    (i.wf s.cfg = false ∧ exec i s = .next s.illegalCommand) ∨
    ((∀ t, i ≠ .edge t) ∧ i ≠ .clear ∧ i.wf s.cfg = true ∧ ∃ r, exec i s = .next (s.respond r)) := by
  cases i with
  | edge t =>
    by_cases h : t.toNat < s.cfg.m
    · exact .inl ⟨t, rfl, h, execEdge_legal h⟩
    · exact .inr (.inr (.inl ⟨by simp [Instr.wf, h], execEdge_illegal (Nat.le_of_not_lt h)⟩))
  | clear => exact .inr (.inl ⟨rfl, rfl⟩)
  | unwrap e l =>
    by_cases h : e.toNat < s.cfg.m ∧ l.toNat < s.cfg.m
    · exact .inr (.inr (.inr ⟨by simp, by simp, by simp [Instr.wf, h], _, execUnwrap_legal h.1 h.2⟩))
    · exact .inr (.inr (.inl ⟨by simpa [Instr.wf] using h, execUnwrap_illegal (by omega)⟩))
  | nop => exact .inr (.inr (.inr ⟨by simp, by simp, rfl, _, rfl⟩))
  | getAddress => exact .inr (.inr (.inr ⟨by simp, by simp, rfl, _, rfl⟩))
  | getCommand => exact .inr (.inr (.inr ⟨by simp, by simp, rfl, _, rfl⟩))
  | getPair => exact .inr (.inr (.inr ⟨by simp, by simp, rfl, _, rfl⟩))
  | getStatus => exact .inr (.inr (.inr ⟨by simp, by simp, rfl, _, rfl⟩))
  | getFrame => exact .inr (.inr (.inr ⟨by simp, by simp, rfl, _, rfl⟩))
  | getCounters => exact .inr (.inr (.inr ⟨by simp, by simp, rfl, _, rfl⟩))
  | classify iv => exact .inr (.inr (.inr ⟨by simp, by simp, rfl, _, rfl⟩))
  | decode f => exact .inr (.inr (.inr ⟨by simp, by simp, rfl, _, rfl⟩))

end Sys2Proof.Machine
end

