-- ==== Sys2Proof/Tests/Slice0.lean ====
section
/-! SUPPORT. The tests: ill-formed commands are refused, words written from 30_encoding.md decode, single steps answer what
95_test_vectors.md gives, and each obligation with hypotheses has a witness (`witness_…`) that meets all of them. -/

namespace Sys2Proof.Tests

open Sys2Proof.Machine

/-! ### Helpers -/

/-- An instance with a short counter, as V-UNWRAP-8, V-UNWRAP-9 and V-EDGE-17 use. -/
def shortCounter : Params := { Params.default with m := 1000 }

/-- The default instance with `S = 1`. -/
def singleEdge : Params := { Params.default with stride := .one }

/-- The state after one word on the command port. -/
def after (s : State) (w : Nat) : Option State :=
  match step (s.withFetchWord 64 w) with
  | .next t => some t
  | .fault _ => none
  | .refused _ => none

/-- The response to one word. -/
def reply (s : State) (w : Nat) : Option RespWord := (after s w).bind (·.resp)

/-- HUNT with a window. -/
def hunting (p : Params) (hc : BitVec 2) (w0 w1 : Timestamp) : State :=
  { State.resetOf p with hc := hc, w0 := w0, w1 := w1 }

/-- FRAME with a full window. -/
def framing (p : Params) (k : BitVec 5) (ph : BitVec 1) (w0 w1 : Timestamp) (fr : Frame) : State :=
  { State.resetOf p with
    st := .frame, k := k, ph := ph, hc := BitVec.ofNat 2 p.stride.toNat, w0 := w0, w1 := w1, fr := fr }

/-- After V-EDGE-6: FRAME, `K = 1`, `PH = 1`, `W = [14625, 15185]`. -/
def afterVEdge6 : State := framing Params.default 1#5 1#1 14625#16 15185#16 0#32

/-- P1's end state as 95_test_vectors.md gives its views: the pair (4, 12), its frame and one valid frame counted. -/
def published : State :=
  { State.reset with fr := 0xF30CFB04#32, res := 0x83#8, lastAddr := 4#8, lastCmd := 12#8, haveLast := true, okCnt := 1#8 }

/-- A slot with a word, before anything else. -/
def offering (s : State) (w : CmdWord) : State := { s with inputs := { reset := false, command := some w } :: s.inputs }

/-- A slot with reset asserted, before anything else. -/
def resetting (s : State) (c : Option CmdWord) : State := { s with inputs := { reset := true, command := c } :: s.inputs }

/-! ### Ill-formed commands (30_encoding.md R58, R62) -/

theorem test_wf_refuses_edge_at_m : Instr.wf shortCounter (.edge 1000#16) = false := by decide
theorem test_wf_accepts_edge_below_m : Instr.wf shortCounter (.edge 999#16) = true := by decide
theorem test_wf_refuses_unwrap_earlier : Instr.wf shortCounter (.unwrap 1000#16 0#16) = false := by decide
theorem test_wf_refuses_unwrap_later : Instr.wf shortCounter (.unwrap 5#16 1000#16) = false := by decide
theorem test_wf_accepts_classify_at_m : Instr.wf shortCounter (.classify 1000#16) = true := by decide
theorem test_decodeLegal_refuses_edge_at_m : decodeLegal shortCounter 0x01000000000003E8#64 = none := by decide

/-! ### Words written out as `OPC ++ RSV ++ B ++ A` from the table of 30_encoding.md R59 -/

theorem test_decode_nop : decode (0x00#8 ++ 0x00#8 ++ 0xFFFF#16 ++ 0xFFFFFFFF#32) = .ok .nop := by decide
theorem test_decode_edge : decode (0x01#8 ++ 0x00#8 ++ 0xABCD#16 ++ 0x123434BC#32) = .ok (.edge 0x34BC#16) := by decide
theorem test_decode_clear : decode (0x02#8 ++ 0x00#8 ++ 0x0000#16 ++ 0x00000000#32) = .ok .clear := by decide
theorem test_decode_getAddress : decode (0x10#8 ++ 0x00#8 ++ 0x0000#16 ++ 0x00000000#32) = .ok .getAddress := by decide
theorem test_decode_getCommand : decode (0x11#8 ++ 0x00#8 ++ 0x0000#16 ++ 0x00000000#32) = .ok .getCommand := by decide
theorem test_decode_getPair : decode (0x12#8 ++ 0x00#8 ++ 0x0000#16 ++ 0x00000000#32) = .ok .getPair := by decide
theorem test_decode_getStatus : decode (0x13#8 ++ 0x00#8 ++ 0x0000#16 ++ 0x00000000#32) = .ok .getStatus := by decide
theorem test_decode_getFrame : decode (0x14#8 ++ 0x00#8 ++ 0x0000#16 ++ 0x00000000#32) = .ok .getFrame := by decide
theorem test_decode_getCounters : decode (0x15#8 ++ 0x00#8 ++ 0x0000#16 ++ 0x00000000#32) = .ok .getCounters := by decide
theorem test_decode_unwrap :
    decode (0x20#8 ++ 0x00#8 ++ 0x000A#16 ++ 0x1234FFFA#32) = .ok (.unwrap 0xFFFA#16 0x000A#16) := by decide
theorem test_decode_classify :
    decode (0x21#8 ++ 0x00#8 ++ 0x0000#16 ++ 0x00000465#32) = .ok (.classify 0x0465#16) := by decide
theorem test_decode_decode :
    decode (0x22#8 ++ 0x00#8 ++ 0xFFFF#16 ++ 0x12345678#32) = .ok (.decode 0x12345678#32) := by decide
theorem test_decode_refuses_unassigned : decode 0x0300000000000000#64 = .error .unassignedOpcode := by decide
theorem test_decode_refuses_past_getCounters : decode 0x1600000000000000#64 = .error .unassignedOpcode := by decide
theorem test_decode_refuses_past_decode : decode 0x2300000000000000#64 = .error .unassignedOpcode := by decide
theorem test_decode_refuses_rsv : decode 0x1380000000000000#64 = .error .reservedBits := by decide
theorem test_decodeTableWord_edge : decodeTableWord 64 0x01000000000034BC = some (.edge 13500#16) := by decide

/-! ### The assembler (30_encoding.md R64, R65, R66) -/

theorem test_asm_line : Asm.line "EDGE  13500 ; x".toList = some [.edge 13500#16] := by decide
theorem test_asm_hex : Asm.line "DECODE 0xF30CFB04".toList = some [.decode 0xF30CFB04#32] := by decide
theorem test_asm_unwrap : Asm.line "UNWRAP 65530, 10".toList = some [.unwrap 65530#16 10#16] := by decide
theorem test_asm_refuses_wide : Asm.line "EDGE 65536".toList = none := by decide
theorem test_asm_listing : Asm.listing 0x01000000000034BC#64 = "01000000000034BC".toList := by decide
theorem test_pseudo_resync : Pseudo.expand .resync = [.clear] := by decide
theorem test_pseudo_assemble : Pseudo.expand (.assemble [1#16, 2#16]) = [.edge 1#16, .edge 2#16] := by decide

/-! ### Single steps: the expected values are those of 95_test_vectors.md, named in each test -/

/-- V-ILL-2. -/
theorem test_nop : after State.reset 0x0000FFFFFFFFFFFF = some { State.reset with resp := some 0#32 } := by decide
/-- V-EDGE-1. -/
theorem test_edge_first : reply State.reset 0x0100000000000000 = some 0x00008000#32 := by decide
/-- V-EDGE-8: `K = 2`, `FR = 2`. -/
theorem test_edge_bit1 : (after afterVEdge6 0x01000000000041EB).map (fun t => (t.resp, t.fr))
    = some (some 0x00010500#32, 2#32) := by decide
/-- V-CLEAR-1. -/
theorem test_clear :
    after (framing Params.default 17#5 1#1 1#16 2#16 0x00015555#32) 0x0200000000000000
      = some { hunting Params.default 0#2 1#16 2#16 with resp := some 0#32 } := by decide
/-- V-CLEAR-2: the published pair stays. -/
theorem test_clear_keeps_pair : ((after published 0x0200000000000000).map State.pairWord) = some 0x00010C04#32 := by decide
/-- V-READ-7. -/
theorem test_getAddress : reply published 0x1000000000000000 = some 0x00000004#32 := by decide
/-- V-READ-8. -/
theorem test_getCommand : reply published 0x1100000000000000 = some 0x0000000C#32 := by decide
/-- W3, W4. -/
theorem test_getPair : reply published 0x1200000000000000 = some 0x00010C04#32 := by decide
/-- V-CLEAR-1: the STATUS word given there. -/
theorem test_getStatus : reply (framing Params.default 17#5 1#1 1#16 2#16 0x00015555#32) 0x1300000000000000
    = some 0x00016300#32 := by decide
/-- V-READ-10. -/
theorem test_getFrame : reply { State.reset with fr := 0xF30C0404#32 } 0x1400000000000000 = some 0xF30C0404#32 := by decide
/-- P4: one valid frame and one desync. -/
theorem test_getCounters :
    reply { State.reset with okCnt := 1#8, desyncCnt := 1#8 } 0x1500000000000000 = some 0x00010001#32 := by decide
/-- V-UNWRAP-5. -/
theorem test_unwrap : reply State.reset 0x2000FFFA0000000A = some 0x0000FFF0#32 := by decide
/-- V-UNWRAP-9. -/
theorem test_unwrap_illegal : after (State.resetOf shortCounter) 0x200003E800000005
    = some { State.resetOf shortCounter with cmdErr := true, resp := some 0#32 } := by decide
/-- V-CLASSIFY-14. -/
theorem test_classify : reply State.reset 0x2100000000002AF8 = some 2#32 := by decide
/-- V-CLASSIFY-27: RepeatMarker has priority over Bit0. -/
theorem test_classify_priority :
    reply (State.resetOf { Params.default with repLo := 1000#16, repHi := 13500#16 }) 0x2100000000000465
      = some 2#32 := by decide
/-- V-DECODE-6. -/
theorem test_decode_step : reply State.reset 0x220000000C0CFB04 = some 0x00020C04#32 := by decide
/-- V-DECODE-10. -/
theorem test_decode_step_b : reply State.reset 0x2200FFFF12345678 = some 0x00033478#32 := by decide
/-- V-ILL-7. -/
theorem test_illegal : after State.reset 0x1380000000000000
    = some { State.reset with cmdErr := true, resp := some 0#32 } := by decide
/-- 70_reset_and_hazards.md R116, R117. -/
theorem test_reset : step (resetting published (some 0x1200000000000000#64)) = .next State.reset := rfl

/-! ### Witnesses for the statements on the decoder and the step -/

theorem witness_legal_words :
    (∀ w ∈ [0x0000000000000000#64, 0x0100000000000000#64, 0x0200000000000000#64, 0x1000000000000000#64,
      0x1100000000000000#64, 0x1200000000000000#64], ¬ Spec.IllegalWord Params.default w ∧ Spec.rsv w = 0#8) ∧
    (∀ w ∈ [0x1300000000000000#64, 0x1400000000000000#64, 0x1500000000000000#64, 0x2000000000000000#64,
      0x2100000000000000#64, 0x2200000000000000#64], ¬ Spec.IllegalWord Params.default w ∧ Spec.rsv w = 0#8) := by
  simp [Spec.IllegalWord, Spec.opcodes, Spec.rsv, Spec.opc, Spec.aLow, Spec.bFull, Params.default]
theorem witness_legal_operands_below_m :
    ¬ Spec.IllegalWord shortCounter 0x01000000000003E7#64 ∧ ¬ Spec.IllegalWord shortCounter 0x200003E7000003E7#64 := by
  decide
theorem witness_illegal_words :
    (∀ w ∈ [0x0001000000000000#64, 0x0300000000000000#64, 0xFF00000000000000#64], Spec.IllegalWord Params.default w) ∧
    (∀ w ∈ [0x01000000000003E8#64, 0x20000000000003E8#64, 0x200003E800000000#64], Spec.IllegalWord shortCounter w) := by
  simp [Spec.IllegalWord, Spec.opcodes, Spec.rsv, Spec.opc, Spec.aLow, Spec.bFull, shortCounter]
theorem witness_nop_with_rsv : Spec.opc 0x00FF000000000000#64 = 0x00#8 ∧ Spec.rsv 0x00FF000000000000#64 ≠ 0#8 := by decide
theorem witness_unlisted_bits : decode 0x0100ABCD12340000#64 = .ok (.edge 0#16) ∧
    (0x0100000000000000#64 &&& Spec.usedBits (.edge 0#16)) = (0x0100ABCD12340000#64 &&& Spec.usedBits (.edge 0#16)) := by
  decide
theorem witness_step_decodes : (offering published 0x1000000000000000#64).inputs
      = { reset := false, command := some 0x1000000000000000#64 } :: [] ∧
    decode 0x1000000000000000#64 = .ok .getAddress := by decide
theorem witness_step_rejects : (offering published 0x0300000000000000#64).inputs
      = { reset := false, command := some 0x0300000000000000#64 } :: [] ∧
    decode 0x0300000000000000#64 = .error .unassignedOpcode := by decide
theorem witness_placed_word : decodeTableWord 64 0x2000000A0000FFFA = some (.unwrap 65530#16 10#16) := by decide
theorem witness_illegal_step : (offering (State.resetOf shortCounter) 0x01000000000003E8#64).inputs
      = { reset := false, command := some 0x01000000000003E8#64 } :: [] ∧
    Spec.IllegalWord (offering (State.resetOf shortCounter) 0x01000000000003E8#64).cfg 0x01000000000003E8#64 := by decide
theorem witness_reset_step : (resetting published (some 0x0100000000000000#64)).inputs
    = { reset := true, command := some 0x0100000000000000#64 } :: [] := by decide
theorem witness_idle_before_word :
    ({ published with inputs := List.replicate 2 Spec.idleSlot ++ [wordSlot 0x0200000000000000#64] } : State).inputs
      = List.replicate 2 Spec.idleSlot ++ [wordSlot 0x0200000000000000#64] := by decide
theorem witness_idle : ({ published with inputs := List.replicate 3 { reset := false, command := none } } : State).inputs
    = List.replicate 3 { reset := false, command := none } := by decide

/-! ### Witnesses for the statements on the pure commands -/

theorem witness_params_wf : Params.default.wf ∧ singleEdge.wf ∧ Params.wf { Params.default with m := 2 } := by decide
theorem witness_legal_timestamps : (65535#16).toNat < State.reset.cfg.m ∧
    (999#16).toNat < (State.resetOf shortCounter).cfg.m ∧ (State.resetOf shortCounter).cfg.wf := by decide
theorem witness_illegal_timestamp : (State.resetOf shortCounter).cfg.m ≤ (1000#16).toNat := by decide
theorem witness_default_table : State.reset.cfg = Params.default ∧ 176 ≤ 176 ∧ 974 ≤ 974 := by decide
theorem witness_readout : Spec.changesNothing (.unwrap 999#16 0#16) = true ∧
    Instr.wf (State.resetOf shortCounter).cfg (.unwrap 999#16 0#16) = true := by decide
theorem witness_never_published : State.reset.Inv ∧ State.reset.haveLast = false := by decide
theorem witness_clear : exec .clear published = .next
    { published with st := .hunt, fr := 0#32, res := 0#8, resp := some 0#32 } := rfl

theorem witness_edges_after_clear : [0#16, 65535#16].length = published.cfg.stride.toNat ∧
    (∀ x ∈ [0#16, 65535#16], x.toNat < published.cfg.m) :=
  ⟨by decide, fun x _ => x.isLt⟩

/-! ### Witnesses for the statements on EDGE, each clause and both strides -/

theorem witness_window_filling : (hunting Params.default 1#2 0#16 0#16).st = .hunt ∧
    (hunting Params.default 1#2 0#16 0#16).hc.toNat ≠ Params.default.stride.toNat := by decide
theorem witness_inside_bit : (framing Params.default 0#5 0#1 0#16 0#16 0#32).st = .frame ∧
    (framing Params.default 0#5 0#1 0#16 0#16 0#32).ph.toNat ≠ Params.default.stride.toNat - 1 := by decide
theorem witness_hunt_candidates : ∀ s ∈ [hunting Params.default 2#2 0#16 9000#16, hunting singleEdge 1#2 0#16 0#16],
    s.cfg.wf ∧ s.st = .hunt ∧ s.HuntIdle ∧ s.hc.toNat = s.cfg.stride.toNat ∧
      Spec.bandFromAnchor s 13500#16 = 1 ∧ Spec.bandFromAnchor s 11250#16 = 2 ∧
      Spec.bandFromAnchor s 7000#16 = 0 ∧ Spec.bandFromAnchor s 1125#16 = 3 := by decide
theorem witness_boundary_edges : ∀ s ∈ [framing Params.default 0#5 1#1 0#16 560#16 0#32,
      framing Params.default 30#5 1#1 0#16 560#16 0#32, framing Params.default 31#5 1#1 0#16 560#16 0#32,
      framing singleEdge 31#5 0#1 0#16 0#16 0#32],
    s.cfg.wf ∧ s.st = .frame ∧ s.FrameAnchored ∧ s.ph.toNat = s.cfg.stride.toNat - 1 ∧
      Spec.bandFromAnchor s 1125#16 = 3 ∧ Spec.bandFromAnchor s 2250#16 = 4 ∧ Spec.bandFromAnchor s 13500#16 = 1 ∧
      Spec.bandFromAnchor s 1700#16 = 0 ∧ Spec.bandFromAnchor s 11250#16 = 2 := by decide
theorem witness_sync_after_desync :
    Spec.bandNumber afterVEdge6.cfg (Spec.interval afterVEdge6.cfg (Spec.w0After afterVEdge6 15926#16) 28685#16) = 1 ∧
    Spec.bandFromAnchor afterVEdge6 15926#16 = 0 ∧ Spec.bandFromAnchor afterVEdge6 25875#16 = 2 := by decide
theorem witness_publishes :
    Spec.publishes (framing Params.default 31#5 1#1 0#16 560#16 0x730CFB04#32) 2250#16 = true := by decide
theorem witness_publishing_word :
    Spec.PublishingWord (framing Params.default 31#5 1#1 0#16 560#16 0x730CFB04#32) 0x01000000000008CA#64 :=
  ⟨by decide, by simp [Spec.IllegalWord, Spec.opcodes, Spec.rsv, Spec.opc, Spec.aLow, framing, State.resetOf, Params.default],
    by decide⟩
theorem witness_rejects :
    Spec.rejects (framing Params.default 31#5 1#1 0#16 560#16 0x730C0404#32) 2250#16 = true := by decide
theorem witness_republishes :
    Spec.findsRepeat { published with hc := 2#2 } 11250#16 = true ∧ published.haveLast = true := by decide

/-! ### Witnesses for the rules of the whole machine -/

theorem witness_step_of_legal_edge :
    (∃ t, step (offering afterVEdge6 0x01000000000041EB#64) = .next t ∧ t.k = 2#5) ∧
    Spec.opc 0x01000000000041EB#64 = 0x01#8 ∧ ¬ Spec.IllegalWord Params.default 0x01000000000041EB#64 :=
  ⟨⟨_, rfl, by decide⟩, by decide, by decide⟩
theorem witness_step_of_readout :
    (∃ t, step (offering published 0x1200000000000000#64) = .next t ∧ t.resp = some 0x00010C04#32) ∧
    Spec.opc 0x1200000000000000#64 ≠ 0x01#8 ∧ Spec.opc 0x1200000000000000#64 ≠ 0x02#8 ∧
    ¬ Spec.IllegalWord published.cfg 0x1200000000000000#64 :=
  ⟨⟨_, rfl, by decide⟩, by decide, by decide, by decide⟩
theorem witness_step_counts :
    (∃ t, step (offering afterVEdge6 0x0100000000003E36#64) = .next t ∧ t.desyncCnt ≠ afterVEdge6.desyncCnt) ∧
    (∃ t, step (offering (framing Params.default 31#5 1#1 0#16 560#16 0x730C0404#32) 0x01000000000008CA#64) = .next t ∧
      t.csumCnt ≠ 0#8) :=
  ⟨⟨_, rfl, by decide⟩, ⟨_, rfl, by decide⟩⟩
theorem witness_step_idle : (∃ t, step State.reset = .next t) ∧
    ({ published with inputs := [{ reset := false, command := none }] } : State).inputs
      = { reset := false, command := none } :: [] :=
  ⟨⟨_, rfl⟩, by decide⟩
theorem witness_inv : afterVEdge6.Inv ∧ published.Inv ∧ (State.resetOf singleEdge).Inv :=
  ⟨by decide, by decide, by decide⟩
theorem witness_inv_step : afterVEdge6.Inv ∧ ∃ t, step (offering afterVEdge6 0x01000000000041EB#64) = .next t :=
  ⟨by decide, _, rfl⟩
theorem witness_frame_below_k :
    (framing Params.default 2#5 1#1 0#16 560#16 3#32).st = .frame ∧
    (framing Params.default 2#5 1#1 0#16 560#16 3#32).FrameBelowK := by decide
theorem witness_same_valid : State.SameValid (hunting Params.default 1#2 7#16 5#16) (hunting Params.default 1#2 9#16 5#16) ∧
    (hunting Params.default 1#2 7#16 5#16).Inv :=
  ⟨⟨rfl, fun j => by unfold State.entry?; rcases j with _ | _ | j <;> simp [hunting, State.resetOf, Params.default, Stride.toNat]⟩,
    by decide⟩
theorem witness_safe : State.Safe (offering published 0x1200000000000000#64) := by
  refine ⟨by decide, by decide, ?_⟩
  simp [offering, published, State.reset, State.resetOf]
  decide

/-! ### A well-formed frame -/

/-- The bit boundaries of a frame with the nominal intervals of 95_test_vectors.md: 13500, then 1125 for 0, 2250 for 1. -/
def boundary (f : Frame) : Nat → Nat
  | 0 => 0
  | 1 => 13500
  | n + 2 => boundary f (n + 1) + if f.getLsbD n then 2250 else 1125

/-- The `S = 1` stream of a frame. -/
def singleEdgeStream (f : Frame) (n : Nat) : Timestamp := BitVec.ofNat 16 (boundary f n)

/-- The `S = 2` stream of a frame: the leader mark lasts 9000 ticks and a data mark 560. -/
def pairStream (f : Frame) (n : Nat) : Timestamp :=
  BitVec.ofNat 16 (boundary f (n / 2) + (if n % 2 = 0 then 0 else if n = 1 then 9000 else 560))

theorem witness_well_formed_frame_pair : State.reset.cfg.wf ∧ State.reset.st = .hunt ∧ State.reset.hc = 0#2 ∧
    Spec.WellFormedFrame State.reset.cfg (Spec.packet 4#8 12#8) (pairStream (Spec.packet 4#8 12#8)) := by
  refine ⟨by decide, by decide, by decide, ?_, by decide, by decide⟩
  intro n _
  exact (pairStream _ n).isLt
theorem witness_well_formed_frame_single : singleEdge.wf ∧ (State.resetOf singleEdge).st = .hunt ∧
    (State.resetOf singleEdge).hc = 0#2 ∧
    Spec.WellFormedFrame singleEdge (Spec.packet 255#8 0#8) (singleEdgeStream (Spec.packet 255#8 0#8)) := by
  refine ⟨by decide, by decide, by decide, ?_, by decide, by decide⟩
  intro n _
  exact (singleEdgeStream _ n).isLt
theorem witness_assemble :
    (assembleCall [0#16, 13500#16, 14625#16] (State.resetOf singleEdge)).result = some 0x00008101#32 ∧
    (assembleCall [0#16, 13500#16, 14625#16] (State.resetOf singleEdge)).queue = [14625#16] ∧
    (assembleCall [0#16] (State.resetOf singleEdge)).result = none ∧ isResult 0x00008101#32 = true := by decide

end Sys2Proof.Tests
end

section
/-! PROOFS. The scope of the model (00_scope.md): what one step runs, the fixed parameters, and the default timing bands. -/

namespace Sys2Proof.Machine

/-! ### What one step runs -/

/-- Everything a step can do, by what the driver presents: hold, reset, run a decoded command, or reject a word. -/
theorem step_cases (s : State) :
    (s.offered = .idle ∧ step s = .next s.take.idle) ∨
    (s.offered = .reset ∧ step s = .next s.take.restart) ∨
    (∃ w i, s.offered = .command w ∧ decode w = .ok i ∧ step s = exec i s.take) ∨
    (∃ w e, s.offered = .command w ∧ decode w = .error e ∧ step s = .next s.take.illegalCommand) := by
  cases h : s.offered with
  | idle => exact .inl ⟨rfl, step_idle h⟩
  | reset => exact .inr (.inl ⟨rfl, step_reset h⟩)
  | command w =>
    cases hd : decode w with
    | ok i => exact .inr (.inr (.inl ⟨w, i, rfl, hd, step_decoded h hd⟩))
    | error e => exact .inr (.inr (.inr ⟨w, e, rfl, hd, step_rejected h hd⟩))

/-- The table's reading of a 64-bit word is the decoder's. -/
theorem decodeTableWord_eq_some {nbits w : Nat} {i : Instr} :
    decodeTableWord nbits w = some i ↔ decode (BitVec.ofNat 64 (w % 2 ^ nbits)) = .ok i := by
  unfold decodeTableWord
  cases decode (BitVec.ofNat 64 (w % 2 ^ nbits)) <;> simp

/-- Settles O5: the slot at the head of the inputs is the offer, and the two ways a word decodes are the two clauses. -/
theorem stepRunsDecodedCommand : Obligations.StepRunsDecodedCommand := by
  unfold Obligations.StepRunsDecodedCommand
  intro s w rest hin
  have hoffer : s.offered = .command w := offered_command hin rfl rfl
  have htake : s.take = { s with inputs := rest } := take_of_cons hin
  constructor
  · intro i hd
    rw [step_decoded hoffer hd, htake]
  · intro e hd
    rw [step_rejected hoffer hd, htake, State.illegalCommand]

/-- Settles O6: a placed word is the next offer, and taking its slot gives the state back. -/
theorem placedWordRunsNext : Obligations.PlacedWordRunsNext := by
  unfold Obligations.PlacedWordRunsNext
  intro s w i h
  exact step_decoded (offered_offerWord s _) (decodeTableWord_eq_some.mp h)

/-! ### The parameters -/

/-- No command writes the parameters (00_scope.md R5). -/
theorem exec_keeps_cfg {i : Instr} {s t : State} (h : exec i s = .next t) : t.cfg = s.cfg := by
  obtain ⟨e, -, -, he⟩ | ⟨-, he⟩ | ⟨-, he⟩ | ⟨-, -, -, r, he⟩ := exec_cases i s <;>
    obtain rfl := Host.Outcome.next.inj (he.symm.trans h)
  case inl => exact afterEdge_cfg s e
  all_goals rfl

/-- Settles O44: by the four things a step can do; reset keeps the parameters, and so does every command. -/
theorem parametersNeverChange : Obligations.ParametersNeverChange := by
  unfold Obligations.ParametersNeverChange
  intro s t h
  obtain ⟨-, hs⟩ | ⟨-, hs⟩ | ⟨w, i, -, -, hs⟩ | ⟨w, e, -, -, hs⟩ := step_cases s
  case inr.inr.inl => exact exec_keeps_cfg (s := s.take) (hs.symm.trans h)
  all_goals
    obtain rfl := Host.Outcome.next.inj (hs.symm.trans h)
    rfl

/-! ### CLASSIFY and the default bands -/

/-- The model's band of an interval has the code of the first matching line of 40_frame_assembler.md R68. -/
theorem bandCode_classifyInterval (p : Params) (iv : Interval) :
    (bandCode (classifyInterval p iv)).toNat = Spec.bandNumber p iv.toNat := by
  simp only [classifyInterval, Spec.bandNumber, inBand_iff]
  split_ifs <;> rfl

/-- CLASSIFY answers the spec's band number and changes nothing (42_readout_and_test.md R98). -/
theorem exec_classify (s : State) (iv : Interval) :
    exec (.classify iv) s = .next (Spec.answer s (Spec.bandNumber s.cfg iv.toNat)) := by
  rw [← bandCode_classifyInterval, Spec.answer, BitVec.ofNat_toNat]
  rfl

/-- The default table (00_scope.md R10) in numbers. -/
theorem bandNumber_default (n : Nat) :
    Spec.bandNumber Params.default n =
      if 13300 ≤ n ∧ n ≤ 13700 then 1 else if 11000 ≤ n ∧ n ≤ 12500 then 2
      else if 1000 ≤ n ∧ n ≤ 1300 then 3 else if 2100 ≤ n ∧ n ≤ 2400 then 4 else 0 := rfl

/-- CLASSIFY under the default table, with the band number computed apart. -/
theorem exec_classify_default {s : State} (hs : s.cfg = Params.default) {iv : Interval} {b : Nat}
    (hb : Spec.bandNumber Params.default iv.toNat = b) : exec (.classify iv) s = .next (Spec.answer s b) := by
  rw [exec_classify, hs, hb]

/-- A number strictly between the `BIT0` and `BIT1` bands, or between `BIT1` and the repeat marker, is in no band. -/
theorem bandNumber_default_of_gap {n : Nat} (h : 1300 < n ∧ n < 2100 ∨ 2400 < n ∧ n < 11000) :
    Spec.bandNumber Params.default n = 0 := by
  rw [bandNumber_default]
  split_ifs <;> omega

/-- Settles O20: the default table in numbers gives each band its code, and the answers at the bounds are computed. -/
theorem defaultBandsAreDisjoint : Obligations.DefaultBandsAreDisjoint := by
  unfold Obligations.DefaultBandsAreDisjoint
  intro s hs
  constructor
  · intro n
    rw [hs, bandNumber_default]
    refine ⟨by omega, ?_, ?_, ?_, ?_⟩ <;> intro h <;> split_ifs <;> omega
  · refine ⟨?_, ?_, ?_, ?_, ?_, ?_, ?_, ?_, ?_, ?_, ?_, ?_, ?_, ?_, ?_, ?_, ?_, ?_⟩ <;>
      exact exec_classify_default hs (by decide)

/-- Settles O53: with a mark of 176 to 974 ticks both sums fall into the gaps between the default bands; 175 and 975 are
the first marks outside. -/
theorem droppedEdgeSumsAreInvalid : Obligations.DroppedEdgeSumsAreInvalid := by
  unfold Obligations.DroppedEdgeSumsAreInvalid
  intro s hs
  have in_gap : ∀ n, (1300 < n ∧ n < 2100 ∨ 2400 < n ∧ n < 11000) →
      exec (.classify (BitVec.ofNat 16 n)) s = .next (Spec.answer s 0) := by
    intro n hn
    have hfit : (BitVec.ofNat 16 n).toNat = n := by
      rw [BitVec.toNat_ofNat]
      omega
    apply exec_classify_default hs
    rw [hfit, bandNumber_default_of_gap hn]
  refine ⟨fun mark hlo hhi => ⟨in_gap _ (by omega), in_gap _ (by omega)⟩, ?_, ?_⟩
  · exact exec_classify_default hs (by decide)
  · exact exec_classify_default hs (by decide)

end Sys2Proof.Machine
end

section
/-! PROOFS. The state (10_state.md): the readout words, the ways a legal EDGE ends, the frame of a command word, the
invariants of R37, and the window entries that hold no value. -/

namespace Sys2Proof.Machine

/-! ### The readout words as numbers -/

/-- Concatenation as a sum of numbers: each field weighs 2 to the number of bits below it. -/
theorem toNat_append_eq_add {m n : Nat} (x : BitVec m) (y : BitVec n) :
    (x ++ y).toNat = x.toNat * 2 ^ n + y.toNat := by
  rw [BitVec.toNat_append, ← Nat.shiftLeft_add_eq_or_of_lt y.isLt, Nat.shiftLeft_eq]

@[simp] theorem toNat_ofBool_eq_flag (b : Bool) : (BitVec.ofBool b).toNat = Spec.flag b := by cases b <;> rfl

@[simp] theorem AsmState.toNat_bit (a : AsmState) : a.bit.toNat = Spec.flag (a = .frame) := by cases a <;> rfl

/-- The STATUS word is the number of 10_state.md R33. -/
theorem statusWord_eq (s : State) : s.statusWord = BitVec.ofNat 32 (Spec.statusNumber s) := by
  apply BitVec.eq_of_toNat_eq
  simp only [State.statusWord, Spec.statusNumber, BitVec.toNat_setWidth, BitVec.toNat_ofNat, toNat_append_eq_add,
    toNat_ofBool_eq_flag, AsmState.toNat_bit]
  omega

/-- The PAIR word is the number of 10_state.md R34. -/
theorem pairWord_eq (s : State) : s.pairWord =
    BitVec.ofNat 32 (s.lastAddr.toNat + 2 ^ 8 * s.lastCmd.toNat + 2 ^ 16 * Spec.flag s.haveLast) := by
  apply BitVec.eq_of_toNat_eq
  simp only [State.pairWord, BitVec.toNat_setWidth, BitVec.toNat_ofNat, toNat_append_eq_add, toNat_ofBool_eq_flag]
  omega

/-- The COUNTERS word is the number of 10_state.md R35. -/
theorem countersWord_eq (s : State) : s.countersWord = BitVec.ofNat 32
    (s.okCnt.toNat + 2 ^ 8 * s.csumCnt.toNat + 2 ^ 16 * s.desyncCnt.toNat + 2 ^ 24 * s.repeatCnt.toNat) := by
  apply BitVec.eq_of_toNat_eq
  simp only [State.countersWord, BitVec.toNat_ofNat, toNat_append_eq_add]
  omega

/-- `CMD_ERR` is bit 18 of the STATUS word (10_state.md R33). -/
theorem statusWord_getLsbD_18 (s : State) : s.statusWord.getLsbD 18 = s.cmdErr := by
  simp only [State.statusWord, BitVec.getLsbD_setWidth, BitVec.getLsbD_append]
  simp

/-- Settles O13: the readout answers the PAIR word, which is that number. -/
theorem getPairAnswersPairWord : Obligations.GetPairAnswersPairWord := by
  unfold Obligations.GetPairAnswersPairWord
  intro s
  rw [Spec.answer, ← pairWord_eq]
  rfl

/-- Settles O16: the readout answers the COUNTERS word, which is that number. -/
theorem getCountersAnswersCountersWord : Obligations.GetCountersAnswersCountersWord := by
  unfold Obligations.GetCountersAnswersCountersWord
  intro s
  rw [Spec.answer, ← countersWord_eq]
  rfl

/-- Settles O14: both commands answer the STATUS word, of the state before and of the state after. -/
theorem statusWordOfGetStatusAndEdge : Obligations.StatusWordOfGetStatusAndEdge := by
  unfold Obligations.StatusWordOfGetStatusAndEdge
  intro s
  constructor
  · rw [Spec.answer, ← statusWord_eq]
    rfl
  · intro t ht
    refine ⟨s.takeEdge t, execEdge_legal ht, ?_⟩
    rw [← statusWord_eq]
    rfl

/-! ### Reset -/

/-- Settles O8: the slot asserts reset, so the step is the restart of the state past it; the cells are
the model's. -/
theorem resetSetsEveryRegister : Obligations.ResetSetsEveryRegister := by
  unfold Obligations.ResetSetsEveryRegister
  intro s c rest hin
  refine ⟨0#16, 0#16, ?_⟩
  rw [step_reset (offered_reset hin rfl), take_of_cons hin]
  rfl

/-! ### The ways a legal EDGE ends -/

/-- The band a boundary edge must meet to bring the bit `b` (40_frame_assembler.md R73). -/
def bitBand : Bool → Band
  | false => .bit0
  | true => .bit1

/-- The band of the interval an EDGE measures, if it measures one. -/
def State.edgeBand (s : State) (t : Timestamp) : Option Band := (s.measured t).map (classifyInterval s.cfg)

/-- The registers after a legal EDGE, by the event it is (40_frame_assembler.md R69 to R76), each with its guard. -/
inductive State.EdgeEnds (s : State) (t : Timestamp) : State → Prop
  | nothing (h : s.edgeBand t = none ∨ (s.st = .hunt ∧ s.edgeBand t ≠ some .sync ∧ s.edgeBand t ≠ some .repeatMarker)) :
      s.EdgeEnds t ((s.shiftWindow t).setRes resNeedMoreData)
  | sync (h : s.edgeBand t = some .sync) : s.EdgeEnds t (s.shiftWindow t).startFrame
  | repeatCode (hst : s.st = .hunt) (h : s.edgeBand t = some .repeatMarker) : s.EdgeEnds t (s.shiftWindow t).repeatCode
  | keep (b : Bool) (hst : s.st = .frame) (h : s.edgeBand t = some (bitBand b)) (hk : s.k ≠ 31#5) :
      s.EdgeEnds t ((s.shiftWindow t).keepBit (s.withBit b))
  | publish (b : Bool) (hst : s.st = .frame) (h : s.edgeBand t = some (bitBand b)) (hk : s.k = 31#5)
      (hm : (decodeFrame (s.withBit b)).mask = 0#2) :
      s.EdgeEnds t (((s.shiftWindow t).endFrame (s.withBit b) (packRes .frame .none 0#2 true)).publish
        (decodeFrame (s.withBit b)))
  | reject (b : Bool) (hst : s.st = .frame) (h : s.edgeBand t = some (bitBand b)) (hk : s.k = 31#5)
      (hm : (decodeFrame (s.withBit b)).mask ≠ 0#2) :
      s.EdgeEnds t ((s.shiftWindow t).endFrame (s.withBit b)
        (packRes .frame .none (decodeFrame (s.withBit b)).mask false)).reject
  | desync (q : DesyncReason) (hst : s.st = .frame)
      (h : (q = .repeatInFrame ∧ s.edgeBand t = some .repeatMarker) ∨
        (q = .invalidInterval ∧ s.edgeBand t = some .invalid)) :
      s.EdgeEnds t ((s.shiftWindow t).desync q)

/-- An accepted bit is kept, or completes the frame validly or not. -/
theorem edgeEnds_acceptBit {s : State} {t : Timestamp} {b : Bool} (hst : s.st = .frame)
    (h : s.edgeBand t = some (bitBand b)) : s.EdgeEnds t ((s.shiftWindow t).acceptBit b) := by
  obtain ⟨hk, he⟩ | ⟨hk, hm, he⟩ | ⟨hk, hm, he⟩ := acceptBit_cases (s.shiftWindow t) b <;> rw [he]
  · exact .keep b hst h hk
  · exact .publish b hst h hk hm
  · exact .reject b hst h hk hm

/-- Every legal EDGE ends in one of these ways. -/
theorem afterEdge_ends (s : State) (t : Timestamp) : s.EdgeEnds t (s.afterEdge t) := by
  have band : ∀ {iv}, s.measured t = some iv → s.edgeBand t = some (classifyInterval s.cfg iv) := by
    intro iv hm
    simp [State.edgeBand, hm]
  obtain ⟨hm, he⟩ | ⟨iv, hm, ⟨hb, he⟩ | ⟨hst, hb, he⟩ | ⟨hst, hs, hr, he⟩ | ⟨hst, hb, he⟩ | ⟨hst, hb, he⟩ |
    ⟨hst, hb, he⟩ | ⟨hst, hb, he⟩⟩ := afterEdge_cases s t <;> rw [he]
  · exact .nothing (.inl (by simp [State.edgeBand, hm]))
  · exact .sync (hb ▸ band hm)
  · exact .repeatCode hst (hb ▸ band hm)
  · exact .nothing (.inr ⟨hst, by simp [band hm, hs], by simp [band hm, hr]⟩)
  · exact edgeEnds_acceptBit hst (by rw [band hm, hb, bitBand])
  · exact edgeEnds_acceptBit hst (by rw [band hm, hb, bitBand])
  · exact .desync _ hst (.inl ⟨rfl, hb ▸ band hm⟩)
  · exact .desync _ hst (.inr ⟨rfl, hb ▸ band hm⟩)

@[simp] theorem ResultKind.code_needMoreData : ResultKind.needMoreData.code = 0#3 := rfl
@[simp] theorem ResultKind.code_syncFound : ResultKind.syncFound.code = 1#3 := rfl
@[simp] theorem ResultKind.code_repeatCode : ResultKind.repeatCode.code = 2#3 := rfl
@[simp] theorem ResultKind.code_frame : ResultKind.frame.code = 3#3 := rfl
@[simp] theorem ResultKind.code_desync : ResultKind.desync.code = 4#3 := rfl
@[simp] theorem DesyncReason.code_none : DesyncReason.none.code = 0#2 := rfl

@[simp] theorem resKind_resNeedMoreData : resKind resNeedMoreData = 0#3 := by decide
@[simp] theorem resPub_resNeedMoreData : resPub resNeedMoreData = false := by decide

/-- The pair and the counters after an EDGE: each is written only with its own result (10_state.md R38). -/
theorem State.EdgeEnds.frame {s u : State} {t : Timestamp} (h : s.EdgeEnds t u) :
    (¬ (resKind u.res = 3#3 ∧ resCsum u.res = 0#2) →
      u.lastAddr = s.lastAddr ∧ u.lastCmd = s.lastCmd ∧ u.haveLast = s.haveLast ∧ u.okCnt = s.okCnt) ∧
    (¬ (resKind u.res = 3#3 ∧ resCsum u.res ≠ 0#2) → u.csumCnt = s.csumCnt) ∧
    (resKind u.res ≠ 4#3 → u.desyncCnt = s.desyncCnt) ∧
    (resKind u.res ≠ 2#3 → u.repeatCnt = s.repeatCnt) := by
  cases h with
  | nothing => simp
  | sync => simp
  | repeatCode => simp
  | keep => simp
  | publish => simp
  | reject _ _ _ _ hm => simp [hm]
  | desync => simp

/-- Settles O39: each way an EDGE ends writes the pair and the counters of its own event only. -/
theorem edgeFrame : Obligations.EdgeFrame := by
  unfold Obligations.EdgeFrame
  intro s t ht
  exact ⟨s.takeEdge t, execEdge_legal ht, afterEdge_cfg s t, afterEdge_inputs s t, afterEdge_cmdErr s t,
    (afterEdge_ends s t).frame⟩


/-! ### The window after the shift -/

/-- The entries depend on the stride, `HC` and the cells alone. -/
theorem entry?_congr {s u : State} (hcfg : u.cfg = s.cfg) (hhc : u.hc = s.hc) (h0 : u.w0 = s.w0) (h1 : u.w1 = s.w1)
    (j : Nat) : u.entry? j = s.entry? j := by
  simp only [State.entry?, hcfg, hhc, h0, h1]

/-- No entry lies past the stride (10_state.md R23). -/
theorem entry?_of_stride_le {s : State} {j : Nat} (h : s.cfg.stride.toNat ≤ j) : s.entry? j = none := by
  rw [State.entry?, if_neg (by omega)]

/-- The shift moves every entry one place down and puts the timestamp last (40_frame_assembler.md R70). -/
theorem entry?_shiftWindow (s : State) (t : Timestamp) (j : Nat) :
    (s.shiftWindow t).entry? j = if j + 1 = s.cfg.stride.toNat then some t else s.entry? (j + 1) := by
  obtain hj | hj := Nat.lt_or_ge j s.cfg.stride.toNat
  · obtain ⟨hs, hn⟩ | ⟨hs, hn⟩ := s.cfg.stride.toNat_cases <;> rw [hn] at hj ⊢
    · obtain rfl : j = 0 := by omega
      rw [(entry?_one (s := s.shiftWindow t) hs).1]
      simp [State.shiftedW0, hs]
    · obtain rfl | rfl : j = 0 ∨ j = 1 := by omega
      · rw [(entry?_two (s := s.shiftWindow t) hs).1, (entry?_two hs).2]
        simp [State.shiftedW0, hs]
      · rw [(entry?_two (s := s.shiftWindow t) hs).2]
        simp [State.shiftedW1, hs]
  · rw [entry?_of_stride_le (s := s.shiftWindow t) hj, entry?_of_stride_le (by omega), if_neg (by omega)]

/-! ### The invariants of R37 -/

/-- The block's results keep `REASON` to DESYNC and `CSUM` to FRAME (10_state.md R27, R28). -/
theorem resultLegal_of_packRes {u : State} {x : ResultKind} {q : DesyncReason} {c : BitVec 2} {b : Bool}
    (hu : u.res = packRes x q c b) (hq : q ≠ .none → x = .desync) (hc : c ≠ 0#2 → x = .frame) : u.ResultLegal := by
  simp only [State.ResultLegal, hu, resKind_packRes, resReason_packRes, resCsum_packRes]
  refine ⟨by cases x <;> decide, by cases q <;> decide, ?_, ?_⟩
  · intro h
    rw [hq (by rintro rfl; exact h rfl)]
    rfl
  · intro h
    rw [hc h]
    rfl

theorem resultLegal_of_zero {u : State} (h : u.res = 0#8) : u.ResultLegal := by
  rw [State.ResultLegal, h]
  decide

/-- An empty window holds no illegal timestamp. -/
theorem windowLegal_of_empty {u : State} (h : u.hc = 0#2) : u.WindowLegal := by
  simp [State.WindowLegal, entry?_of_hc_zero h]

/-- A legal timestamp shifted into a legal window leaves it legal. -/
theorem windowLegal_shiftWindow {s : State} {t : Timestamp} (h : s.WindowLegal) (ht : t.toNat < s.cfg.m) :
    (s.shiftWindow t).WindowLegal := by
  have hlegal : timestampLegal s.cfg t = true := by simp [timestampLegal, ht]
  obtain ⟨-, hlast⟩ := h
  obtain ⟨-, hn⟩ | ⟨-, hn⟩ := s.cfg.stride.toNat_cases
  · simp [State.WindowLegal, entry?_shiftWindow, hn, hlegal, entry?_of_stride_le]
  · simpa [State.WindowLegal, entry?_shiftWindow, hn, hlegal] using hlast

theorem nextPhase_of_hunt {s : State} (h : s.st = .hunt) : s.nextPhase = 0#1 := by simp [State.nextPhase, h]

/-- The phase stays below the stride (40_frame_assembler.md R72). -/
theorem nextPhase_le {s : State} (h : s.ph.toNat ≤ s.cfg.stride.toNat - 1) :
    s.nextPhase.toNat ≤ s.cfg.stride.toNat - 1 := by
  obtain ⟨-, hn⟩ | ⟨-, hn⟩ := s.cfg.stride.toNat_cases
  · rw [hn] at h ⊢
    have hph : s.ph.toNat = 0 := by omega
    cases hst : s.st <;> simp [State.nextPhase, hst, hn, hph]
  · rw [hn]
    omega

/-- Where an EDGE measures an interval the window is full: in HUNT by the guard, in FRAME by the invariant. -/
theorem full_of_edgeBand {s : State} {t : Timestamp} {b : Band} (hframe : s.FrameAnchored)
    (h : s.edgeBand t = some b) : s.hc.toNat = s.cfg.stride.toNat := by
  cases hst : s.st with
  | frame => exact hframe hst
  | hunt =>
    by_contra hne
    simp [State.edgeBand, measured_hunt hst, hne] at h

section Operations

variable {u : State} (hu : u.Inv)
include hu

theorem inv_shiftWindow {t : Timestamp} (ht : t.toNat < u.cfg.m) : (u.shiftWindow t).Inv := by
  obtain ⟨hwf, ⟨hhc, hph⟩, hhunt, hframe, hres, hpair, hwin⟩ := hu
  refine ⟨hwf, ⟨?_, nextPhase_le hph⟩, ?_, ?_, hres, hpair, windowLegal_shiftWindow hwin ht⟩
  · simp
  · exact fun hst => ⟨(hhunt hst).1, nextPhase_of_hunt hst⟩
  · intro hst
    have := hframe hst
    simp
    omega

theorem inv_setRes {r : Byte} (hr : (u.setRes r).ResultLegal) : (u.setRes r).Inv := by
  obtain ⟨hwf, hcounts, hhunt, hframe, -, hpair, hwin⟩ := hu
  exact ⟨hwf, hcounts, hhunt, hframe, hr, hpair, hwin⟩

theorem inv_startFrame (hfull : u.hc.toNat = u.cfg.stride.toNat) : u.startFrame.Inv := by
  obtain ⟨hwf, ⟨hhc, -⟩, -, -, -, hpair, hwin⟩ := hu
  exact ⟨hwf, ⟨hhc, Nat.zero_le _⟩, nofun, fun _ => hfull, resultLegal_of_packRes rfl (by simp) (by simp), hpair, hwin⟩

theorem inv_repeatCode (hst : u.st = .hunt) : u.repeatCode.Inv := by
  obtain ⟨hwf, ⟨-, hph⟩, hhunt, -, -, hpair, -⟩ := hu
  exact ⟨hwf, ⟨Nat.zero_le _, hph⟩, hhunt, fun h => by simp [hst] at h,
    resultLegal_of_packRes rfl (by simp) (by simp), hpair, windowLegal_of_empty rfl⟩

theorem inv_keepBit (hst : u.st = .frame) (f : Frame) : (u.keepBit f).Inv := by
  obtain ⟨hwf, hcounts, -, hframe, -, hpair, hwin⟩ := hu
  exact ⟨hwf, hcounts, fun h => by simp [hst] at h, hframe, resultLegal_of_packRes rfl (by simp) (by simp), hpair, hwin⟩

theorem inv_endFrame (f : Frame) (c : BitVec 2) (b : Bool) : (u.endFrame f (packRes .frame .none c b)).Inv := by
  obtain ⟨hwf, -, -, -, -, hpair, -⟩ := hu
  exact ⟨hwf, ⟨Nat.zero_le _, Nat.zero_le _⟩, fun _ => ⟨rfl, rfl⟩, nofun,
    resultLegal_of_packRes rfl (by simp) (by simp), hpair, windowLegal_of_empty rfl⟩

theorem inv_publish (d : Decoded) : (u.publish d).Inv := by
  obtain ⟨hwf, hcounts, hhunt, hframe, hres, -, hwin⟩ := hu
  exact ⟨hwf, hcounts, hhunt, hframe, hres, nofun, hwin⟩

theorem inv_reject : u.reject.Inv := hu

theorem inv_desync (q : DesyncReason) : (u.desync q).Inv := by
  obtain ⟨hwf, ⟨hhc, -⟩, -, -, -, hpair, hwin⟩ := hu
  exact ⟨hwf, ⟨hhc, Nat.zero_le _⟩, fun _ => ⟨rfl, rfl⟩, nofun,
    resultLegal_of_packRes rfl (by simp) (by simp), hpair, hwin⟩

/-- A legal EDGE keeps the invariants: the shift does, and so does each event after it. -/
theorem inv_afterEdge {t : Timestamp} (ht : t.toNat < u.cfg.m) : (u.afterEdge t).Inv := by
  have hshift : (u.shiftWindow t).Inv := inv_shiftWindow hu ht
  have hends : u.EdgeEnds t (u.afterEdge t) := afterEdge_ends u t
  generalize u.afterEdge t = v at hends
  cases hends with
  | nothing => exact inv_setRes hshift (resultLegal_of_packRes rfl (by simp) (by simp))
  | sync h =>
    have hfull : u.hc.toNat = u.cfg.stride.toNat := by
      obtain ⟨-, -, -, hframe, -⟩ := hu
      exact full_of_edgeBand hframe h
    apply inv_startFrame hshift
    simp
    omega
  | repeatCode hst => exact inv_repeatCode hshift hst
  | keep b hst => exact inv_keepBit hshift hst _
  | publish => exact inv_publish (inv_endFrame hshift _ _ _) _
  | reject => exact inv_reject (inv_endFrame hshift _ _ _)
  | desync q => exact inv_desync hshift q

/-- Every command keeps the invariants. -/
theorem inv_exec {i : Instr} {v : State} (h : exec i u = .next v) : v.Inv := by
  obtain ⟨t, -, ht, he⟩ | ⟨-, he⟩ | ⟨-, he⟩ | ⟨-, -, -, r, he⟩ := exec_cases i u <;>
    obtain rfl := Host.Outcome.next.inj (he.symm.trans h)
  · exact inv_afterEdge hu ht
  · obtain ⟨hwf, -, -, -, -, hpair, -⟩ := hu
    exact ⟨hwf, ⟨Nat.zero_le _, Nat.zero_le _⟩, fun _ => ⟨rfl, rfl⟩, nofun,
      resultLegal_of_zero rfl, hpair, windowLegal_of_empty rfl⟩
  · exact hu
  · exact hu

end Operations

/-- With a legal modulus the reset state meets the invariants. -/
theorem inv_resetOf {p : Params} (hp : p.wf) : (State.resetOf p).Inv :=
  ⟨hp, ⟨Nat.zero_le _, Nat.zero_le _⟩, fun _ => ⟨rfl, rfl⟩, nofun, resultLegal_of_zero rfl, fun _ => ⟨rfl, rfl⟩,
    windowLegal_of_empty rfl⟩

/-- Settles O47: every register is 0, the window is empty, and the assembler is not in FRAME. -/
theorem resetMeetsInvariants : Obligations.ResetMeetsInvariants := by
  unfold Obligations.ResetMeetsInvariants
  exact fun p hp => ⟨inv_resetOf hp, nofun⟩

/-- Settles O46: a step holds the registers, resets them, runs a command or sets `CMD_ERR`, and each keeps the
invariants. -/
theorem stepKeepsInvariants : Obligations.StepKeepsInvariants := by
  unfold Obligations.StepKeepsInvariants
  intro s t hs h
  have htake : s.take.Inv := hs
  obtain ⟨-, he⟩ | ⟨-, he⟩ | ⟨w, i, -, -, he⟩ | ⟨w, e, -, -, he⟩ := step_cases s
  case inr.inr.inl => exact inv_exec htake (he.symm.trans h)
  all_goals obtain rfl := Host.Outcome.next.inj (he.symm.trans h)
  · exact htake
  · exact inv_resetOf hs.1
  · exact htake

/-! ### Window entries that hold no value -/

/-- The state with other bits in the window cells. -/
def State.withCells (s : State) (a b : Timestamp) : State := { s with w0 := a, w1 := b }

/-- The cells `a` and `b` show the window entries of `s`. -/
abbrev State.ShowsCells (s : State) (a b : Timestamp) : Prop := ∀ j, s.entry? j = (s.withCells a b).entry? j

/-- States that agree on every valid entry are one state up to cells that show the same entries. -/
theorem sameValid_iff {s t : State} : s.SameValid t ↔ t = s.withCells t.w0 t.w1 ∧ s.ShowsCells t.w0 t.w1 := by
  have key : { s with w0 := 0#16, w1 := 0#16 } = { t with w0 := 0#16, w1 := 0#16 } ↔ t = s.withCells t.w0 t.w1 := by
    cases s; cases t
    simp [State.withCells, eq_comm]
  rw [State.SameValid, key]
  constructor <;> rintro ⟨ht, hj⟩ <;> exact ⟨ht, fun j => by rw [hj, ← ht]⟩

/-- Any cells show the entries of an empty window. -/
theorem showsCells_of_empty {s : State} (h : s.hc = 0#2) (a b : Timestamp) : s.ShowsCells a b := by
  intro j
  rw [entry?_of_hc_zero h, entry?_of_hc_zero (s := s.withCells a b) h]

theorem sameValid_withCells {s : State} {a b : Timestamp} (h : s.ShowsCells a b) : s.SameValid (s.withCells a b) :=
  sameValid_iff.mpr ⟨rfl, h⟩

@[simp] theorem withCells_st (s : State) (a b : Timestamp) : (s.withCells a b).st = s.st := rfl
@[simp] theorem withCells_k (s : State) (a b : Timestamp) : (s.withCells a b).k = s.k := rfl
@[simp] theorem withCells_withBit (s : State) (a b : Timestamp) (x : Bool) :
    (s.withCells a b).withBit x = s.withBit x := rfl

/-- What an accepted bit does does not depend on the cells. -/
theorem acceptBit_withCells (s : State) (a b : Timestamp) (x : Bool) :
    (s.withCells a b).acceptBit x = (s.acceptBit x).withCells a b := by
  obtain ⟨hk, he⟩ | ⟨hk, hm, he⟩ | ⟨hk, hm, he⟩ := acceptBit_cases s x <;> rw [he]
  · simp only [State.acceptBit, withCells_k, hk, if_false]
    rfl
  · simp only [State.acceptBit, State.completeFrame, withCells_k, withCells_withBit, hk, hm, if_true]
    rfl
  · simp only [State.acceptBit, State.completeFrame, withCells_k, withCells_withBit, hk, hm, if_true, if_false]
    rfl

/-- What a measured interval does does not depend on the cells. -/
theorem act_withCells (s : State) (a b : Timestamp) (band : Band) :
    (s.withCells a b).act band = (s.act band).withCells a b := by
  cases hst : s.st <;> simp only [State.act, withCells_st, hst]
  case hunt => cases band <;> rfl
  case frame =>
    cases band with
    | bit0 => exact acceptBit_withCells s a b false
    | bit1 => exact acceptBit_withCells s a b true
    | sync => rfl
    | repeatMarker => rfl
    | invalid => rfl

/-- An EDGE measures from `W[0]` only when the window is full, so it measures the same from cells that show the same
entries. -/
theorem measured_withCells {s : State} {a b : Timestamp} (hframe : s.FrameAnchored) (h : s.ShowsCells a b)
    (t : Timestamp) : (s.withCells a b).measured t = s.measured t := by
  by_cases hfull : s.hc.toNat = s.cfg.stride.toNat
  · have hanchor : a = s.w0 := by
      have h0 := h 0
      obtain ⟨-, hn⟩ | ⟨-, hn⟩ := s.cfg.stride.toNat_cases <;>
        simpa [State.entry?, State.withCells, hfull, hn, eq_comm] using h0
    rw [hanchor]
    rfl
  · have hst : s.st = .hunt := by
      cases hst : s.st with
      | hunt => rfl
      | frame => exact absurd (hframe hst) hfull
    rw [measured_hunt hst, if_neg hfull, measured_hunt (s := s.withCells a b) hst]
    exact if_neg hfull

/-- The EDGE of a state with other cells is the EDGE of the state, with its cells shifted. -/
theorem afterEdge_withCells {s : State} {a b : Timestamp} (hframe : s.FrameAnchored) (h : s.ShowsCells a b)
    (t : Timestamp) : (s.withCells a b).afterEdge t =
      (s.afterEdge t).withCells ((s.withCells a b).shiftedW0 t) ((s.withCells a b).shiftedW1 t) := by
  rw [State.afterEdge, measured_withCells hframe h, State.afterEdge]
  cases s.measured t with
  | none => rfl
  | some iv => exact act_withCells (s.shiftWindow t) _ _ _

/-- The shifted cells show the entries after an EDGE. -/
theorem showsCells_afterEdge {s : State} {a b : Timestamp} (h : s.ShowsCells a b) (t : Timestamp) :
    (s.afterEdge t).ShowsCells ((s.withCells a b).shiftedW0 t) ((s.withCells a b).shiftedW1 t) := by
  obtain ⟨h0, h1, hhc | hhc⟩ := afterEdge_window s t
  · intro j
    calc (s.afterEdge t).entry? j
      _ = (s.shiftWindow t).entry? j := entry?_congr (s := s.shiftWindow t) (afterEdge_cfg s t) hhc h0 h1 j
      _ = ((s.withCells a b).shiftWindow t).entry? j := by rw [entry?_shiftWindow, entry?_shiftWindow, h]; rfl
      _ = ((s.afterEdge t).withCells ((s.withCells a b).shiftedW0 t) ((s.withCells a b).shiftedW1 t)).entry? j := by
        symm
        apply entry?_congr
        · exact afterEdge_cfg s t
        · exact hhc
        · rfl
        · rfl
  · exact showsCells_of_empty hhc _ _

/-- A command does the same whatever the cells that hold no value hold. -/
theorem exec_withCells {s s' : State} {a b : Timestamp} (hframe : s.FrameAnchored) (h : s.ShowsCells a b) {i : Instr}
    (he : exec i s = .next s') :
    ∃ a' b', exec i (s.withCells a b) = .next (s'.withCells a' b') ∧ s'.ShowsCells a' b' := by
  cases i
  case edge t =>
    by_cases ht : t.toNat < s.cfg.m
    · obtain rfl := Host.Outcome.next.inj ((execEdge_legal ht).symm.trans he)
      refine ⟨_, _, ?_, showsCells_afterEdge h t⟩
      rw [exec, execEdge_legal (s := s.withCells a b) ht, State.takeEdge, afterEdge_withCells hframe h]
      rfl
    · have hm : s.cfg.m ≤ t.toNat := Nat.le_of_not_lt ht
      obtain rfl := Host.Outcome.next.inj ((execEdge_illegal hm).symm.trans he)
      exact ⟨a, b, execEdge_illegal (s := s.withCells a b) hm, h⟩
  case unwrap e l =>
    by_cases hl : e.toNat < s.cfg.m ∧ l.toNat < s.cfg.m
    · obtain rfl := Host.Outcome.next.inj ((execUnwrap_legal hl.1 hl.2).symm.trans he)
      exact ⟨a, b, execUnwrap_legal (s := s.withCells a b) hl.1 hl.2, h⟩
    · have hm : s.cfg.m ≤ e.toNat ∨ s.cfg.m ≤ l.toNat := by omega
      obtain rfl := Host.Outcome.next.inj ((execUnwrap_illegal hm).symm.trans he)
      exact ⟨a, b, execUnwrap_illegal (s := s.withCells a b) hm, h⟩
  all_goals obtain rfl := Host.Outcome.next.inj he
  case clear => exact ⟨a, b, rfl, showsCells_of_empty rfl a b⟩
  all_goals exact ⟨a, b, rfl, h⟩

/-- A step does the same whatever the cells that hold no value hold. -/
theorem step_withCells {s s' : State} {a b : Timestamp} (hframe : s.FrameAnchored) (h : s.ShowsCells a b)
    (hs : step s = .next s') :
    ∃ a' b', step (s.withCells a b) = .next (s'.withCells a' b') ∧ s'.ShowsCells a' b' := by
  obtain ⟨ho, he⟩ | ⟨ho, he⟩ | ⟨w, i, ho, hd, he⟩ | ⟨w, e, ho, hd, he⟩ := step_cases s
  case inr.inr.inl =>
    rw [step_decoded (s := s.withCells a b) ho hd]
    exact exec_withCells (s := s.take) hframe h (he.symm.trans hs)
  all_goals obtain rfl := Host.Outcome.next.inj (he.symm.trans hs)
  · exact ⟨a, b, step_idle (s := s.withCells a b) ho, h⟩
  · exact ⟨0#16, 0#16, step_reset (s := s.withCells a b) ho, showsCells_of_empty rfl _ _⟩
  · exact ⟨a, b, step_rejected (s := s.withCells a b) ho hd, h⟩

/-- Settles O49: the other state is the same state with other cells, and neither the response nor the publish port reads
the cells. -/
theorem invalidWindowIsUnobservable : Obligations.InvalidWindowIsUnobservable := by
  unfold Obligations.InvalidWindowIsUnobservable
  intro s t s' hinv hsame hs
  obtain ⟨ht, hshows⟩ := sameValid_iff.mp hsame
  obtain ⟨-, -, -, hframe, -⟩ := hinv
  obtain ⟨a', b', ht', hshows'⟩ := step_withCells hframe hshows hs
  exact ⟨s'.withCells a' b', ht ▸ ht', sameValid_withCells hshows', rfl, rfl⟩

/-! ### Command words, legal and illegal -/

theorem aLow_eq (w : CmdWord) : aLow w = Spec.aLow w := by
  ext j hj
  simp [aLow, aField, Spec.aLow]

theorem opcode_mem (i : Instr) : i.opcode.toNat ∈ Spec.opcodes := by cases i <;> simp [Instr.opcode, Spec.opcodes]

/-- The row an opcode selects has that opcode, and its timestamps stand in their fields (30_encoding.md R58, R59). -/
theorem commandOf_cases (o : BitVec 8) (b : BitVec 16) (a : BitVec 32) :
    (commandOf o b a = none ∧ o.toNat ∉ Spec.opcodes) ∨
    ∃ i, commandOf o b a = some i ∧ o = i.opcode ∧ (∀ t, i = .edge t → t = a.extractLsb' 0 16) ∧
      ∀ e l, i = .unwrap e l → e = a.extractLsb' 0 16 ∧ l = b := by
  unfold commandOf
  split
  case h_13 =>
    refine .inl ⟨rfl, ?_⟩
    simp only [Spec.opcodes, List.mem_cons, List.not_mem_nil]
    tauto
  all_goals exact .inr ⟨_, rfl, BitVec.eq_of_toNat_eq ‹_›, by simp, by simp⟩

/-- A word that the decoder rejects is illegal whatever the parameters (30_encoding.md R62). -/
theorem illegalWord_of_rejected {w : CmdWord} {e : DecodeError} (h : decode w = .error e) (p : Params) :
    Spec.IllegalWord p w := by
  by_cases hrsv : rsvField w = 0#8
  · obtain ⟨-, hopc⟩ | ⟨i, hi, -⟩ := commandOf_cases (opcField w) (bField w) (aField w)
    · exact .inr (.inl hopc)
    · simp [decode_of_command hrsv hi] at h
  · exact .inl hrsv

/-- The opcode of a decoded word is the command's, and the timestamps of an EDGE or an UNWRAP stand in its fields. -/
theorem fields_of_decoded {w : CmdWord} {i : Instr} (h : decode w = .ok i) :
    Spec.rsv w = 0#8 ∧ Spec.opc w = i.opcode ∧ (∀ t, i = .edge t → t = Spec.aLow w) ∧
      ∀ e l, i = .unwrap e l → e = Spec.aLow w ∧ l = Spec.bFull w := by
  obtain ⟨hrsv, hc⟩ := decode_eq_ok.mp h
  obtain ⟨hnone, -⟩ | ⟨j, hj, hrest⟩ := commandOf_cases (opcField w) (bField w) (aField w)
  · simp [hnone] at hc
  · obtain rfl := Option.some.inj (hj.symm.trans hc)
    rw [← aLow_eq]
    exact ⟨hrsv, hrest⟩

/-- A decoded word is illegal exactly when its command fails a value check (30_encoding.md R58, R62). -/
theorem illegalWord_iff_of_decoded {w : CmdWord} {i : Instr} (h : decode w = .ok i) (p : Params) :
    Spec.IllegalWord p w ↔ i.wf p = false := by
  obtain ⟨hrsv, hopc, hedge, hunwrap⟩ := fields_of_decoded h
  have hmem := opcode_mem i
  simp only [Spec.IllegalWord, hrsv, hopc, hmem]
  cases i with
  | edge t => simp [Instr.opcode, Instr.wf, hedge t rfl]
  | unwrap e l =>
    obtain ⟨rfl, rfl⟩ := hunwrap e l rfl
    simp [Instr.opcode, Instr.wf]
    omega
  | _ => simp [Instr.opcode, Instr.wf]

/-- What the step of a command word can be: the illegal-command path, a legal EDGE of the timestamp in the word, CLEAR,
or an answer that changes nothing (20_memory.md R46, 60_exceptions.md R103). -/
theorem step_command_cases {s : State} {w : CmdWord} {rest : List PortSlot}
    (hin : s.inputs = { reset := false, command := some w } :: rest) :
    (Spec.IllegalWord s.cfg w ∧ step s = .next s.take.illegalCommand) ∨
    (¬ Spec.IllegalWord s.cfg w ∧ Spec.opc w = 0x01#8 ∧ step s = .next (s.take.takeEdge (Spec.aLow w))) ∨
    (¬ Spec.IllegalWord s.cfg w ∧ Spec.opc w = 0x02#8 ∧ step s = execClear s.take) ∨
    (¬ Spec.IllegalWord s.cfg w ∧ Spec.opc w ≠ 0x01#8 ∧ Spec.opc w ≠ 0x02#8 ∧
      ∃ r, step s = .next (s.take.respond r)) := by
  have hoffer : s.offered = .command w := offered_command hin rfl rfl
  cases hd : decode w with
  | error e => exact .inl ⟨illegalWord_of_rejected hd _, step_rejected hoffer hd⟩
  | ok i =>
    have hstep : step s = exec i s.take := step_decoded hoffer hd
    have hillegal := illegalWord_iff_of_decoded hd s.cfg
    obtain ⟨-, hopc, hedge, -⟩ := fields_of_decoded hd
    rw [hillegal, hopc, hstep]
    obtain ⟨t, rfl, ht, he⟩ | ⟨rfl, he⟩ | ⟨hwf, he⟩ | ⟨hne, hnc, hwf, r, he⟩ := exec_cases i s.take
    · obtain rfl := hedge t rfl
      exact .inr (.inl ⟨by simpa [Instr.wf] using ht, rfl, he⟩)
    · exact .inr (.inr (.inl ⟨by simp [Instr.wf], rfl, rfl⟩))
    · exact .inl ⟨hwf, he⟩
    · refine .inr (.inr (.inr ⟨by simpa using hwf, ?_, ?_, r, he⟩))
      · cases i <;> simp [Instr.opcode] at hne ⊢
      · cases i <;> simp [Instr.opcode] at hnc ⊢

/-- Settles O43: by the four things the step of a command word can be. -/
theorem onlyEdgeClearAndIllegalChangeState : Obligations.OnlyEdgeClearAndIllegalChangeState := by
  unfold Obligations.OnlyEdgeClearAndIllegalChangeState
  intro s t w rest hin hs
  have htake : s.take = { s with inputs := rest } := take_of_cons hin
  obtain ⟨hi, he⟩ | ⟨hi, ho, -⟩ | ⟨hi, ho, -⟩ | ⟨hi, h1, h2, r, he⟩ := step_command_cases hin
  · obtain rfl := Host.Outcome.next.inj (he.symm.trans hs)
    exact ⟨fun _ => by rw [htake]; rfl, fun h => absurd hi h⟩
  · exact ⟨fun h => absurd h hi, fun _ h => absurd ho h⟩
  · exact ⟨fun h => absurd h hi, fun _ _ h => absurd ho h⟩
  · obtain rfl := Host.Outcome.next.inj (he.symm.trans hs)
    exact ⟨fun h => absurd h hi, fun _ _ _ => by rw [htake]; rfl⟩

/-- Settles O41: an illegal word sets `CMD_ERR`, a legal one keeps it, and it is bit 18 of STATUS. -/
theorem cmdErrIsSticky : Obligations.CmdErrIsSticky := by
  unfold Obligations.CmdErrIsSticky
  refine ⟨fun s t slot rest hin hs => ⟨?_, ?_, ?_⟩, fun s => ⟨_, _, rfl, rfl, statusWord_getLsbD_18 s⟩⟩
  · intro hr
    obtain rfl := Host.Outcome.next.inj ((step_reset (offered_reset hin hr)).symm.trans hs)
    rfl
  · intro hr w hc
    have hword : s.inputs = { reset := false, command := some w } :: rest := by rw [hin, ← hr, ← hc]
    obtain ⟨hi, he⟩ | ⟨hi, -, he⟩ | ⟨hi, -, he⟩ | ⟨hi, -, -, r, he⟩ := step_command_cases hword <;>
      obtain rfl := Host.Outcome.next.inj (he.symm.trans hs)
    · simp [hi]
    · simp [hi, State.takeEdge]
    · simp [hi]
    · simp [hi]
  · intro hr hc
    obtain rfl := Host.Outcome.next.inj ((step_idle (offered_none hin hr hc)).symm.trans hs)
    rfl

/-! ### The counters -/

/-- Each counter goes up by one on its own result, modulo 256 (10_state.md R32). -/
theorem State.EdgeEnds.counters {s u : State} {t : Timestamp} (h : s.EdgeEnds t u) :
    u.okCnt.toNat = (s.okCnt.toNat + Spec.flag (resKind u.res == 3#3 && resCsum u.res == 0#2)) % 256 ∧
    u.csumCnt.toNat = (s.csumCnt.toNat + Spec.flag (resKind u.res == 3#3 && resCsum u.res != 0#2)) % 256 ∧
    u.desyncCnt.toNat = (s.desyncCnt.toNat + Spec.flag (resKind u.res == 4#3)) % 256 ∧
    u.repeatCnt.toNat = (s.repeatCnt.toNat + Spec.flag (resKind u.res == 2#3)) % 256 := by
  have same : ∀ c : Byte, c.toNat = c.toNat % 256 := fun c => (Nat.mod_eq_of_lt c.isLt).symm
  cases h with
  | nothing => simp [Spec.flag, ← same]
  | sync => simp [Spec.flag, ← same]
  | repeatCode => simp [Spec.flag, ← same]
  | keep => simp [Spec.flag, ← same]
  | publish => simp [Spec.flag, ← same]
  | reject _ _ _ _ hm => simp [Spec.flag, hm, ← same]
  | desync => simp [Spec.flag, ← same]

/-- Settles O40: reset zeroes the counters, GET_COUNTERS reads them, and of all command words only a legal EDGE
counts. -/
theorem countersCountTheirEvents : Obligations.CountersCountTheirEvents := by
  unfold Obligations.CountersCountTheirEvents
  refine ⟨fun s c rest hin => ⟨_, step_reset (offered_reset hin rfl), rfl, rfl, rfl, rfl⟩, fun _ => rfl, ?_⟩
  intro s t w rest hin hs
  obtain ⟨hi, he⟩ | ⟨hi, ho, he⟩ | ⟨-, ho, he⟩ | ⟨-, ho, -, r, he⟩ := step_command_cases hin <;>
    obtain rfl := Host.Outcome.next.inj (he.symm.trans hs)
  · exact ⟨fun h => absurd hi h.2, fun _ => ⟨rfl, rfl, rfl, rfl⟩⟩
  · exact ⟨fun _ => (afterEdge_ends s.take (Spec.aLow w)).counters, fun h => absurd ⟨ho, hi⟩ h⟩
  · exact ⟨fun h => absurd (ho.symm.trans h.1) (by decide), fun _ => ⟨rfl, rfl, rfl, rfl⟩⟩
  · exact ⟨fun h => absurd h.1 ho, fun _ => ⟨rfl, rfl, rfl, rfl⟩⟩

/-! ### The published pair -/

@[simp] theorem bitBand_inj {a b : Bool} : bitBand a = bitBand b ↔ a = b := by cases a <;> cases b <;> decide
@[simp] theorem sync_ne_bitBand (b : Bool) : Band.sync ≠ bitBand b := by cases b <;> decide
@[simp] theorem repeatMarker_ne_bitBand (b : Bool) : Band.repeatMarker ≠ bitBand b := by cases b <;> decide
@[simp] theorem invalid_ne_bitBand (b : Bool) : Band.invalid ≠ bitBand b := by cases b <;> decide

theorem bandCode_toNat_inj {a b : Band} : (bandCode a).toNat = (bandCode b).toNat ↔ a = b := by
  cases a <;> cases b <;> decide

/-- The model measures an interval exactly where the pseudocode does, and always from `W[0]`. -/
theorem measured_eq (s : State) (t : Timestamp) :
    s.measured t = if Spec.measures s = true then some (unwrapInterval s.cfg s.w0 t) else none := by
  cases hst : s.st with
  | hunt => simp [measured_hunt hst, Spec.measures, hst]
  | frame => simp [measured_frame hst, Spec.measures, hst]

/-- The band of an EDGE is the pseudocode's, by its code (40_frame_assembler.md R67 to R69). -/
theorem edgeBand_eq_some {s : State} {t : Timestamp} {b : Band} (hp : s.cfg.wf) :
    s.edgeBand t = some b ↔ Spec.measures s = true ∧ Spec.bandFromAnchor s t = (bandCode b).toNat := by
  have hcode : Spec.bandFromAnchor s t = (bandCode (classifyInterval s.cfg (unwrapInterval s.cfg s.w0 t))).toNat := by
    rw [bandCode_classifyInterval, unwrapInterval_toNat hp]
    rfl
  rw [State.edgeBand, measured_eq, hcode, bandCode_toNat_inj]
  cases Spec.measures s <;> simp

theorem findsRepeat_iff {s : State} {t : Timestamp} (hp : s.cfg.wf) :
    Spec.findsRepeat s t = true ↔ s.st = .hunt ∧ s.edgeBand t = some .repeatMarker := by
  simp [Spec.findsRepeat, edgeBand_eq_some hp, bandCode]
  tauto

theorem storesBit_iff {s : State} {t : Timestamp} (hp : s.cfg.wf) :
    Spec.storesBit s t = true ↔ s.st = .frame ∧ ∃ b, s.edgeBand t = some (bitBand b) := by
  simp [Spec.storesBit, edgeBand_eq_some hp, bandCode, bitBand]
  tauto

/-- The frame of the pseudocode is `FR` with the bit that the band brings. -/
theorem storedFrame_eq {s : State} {t : Timestamp} {b : Bool} (hp : s.cfg.wf) (h : s.edgeBand t = some (bitBand b)) :
    Spec.storedFrame s t = s.withBit b := by
  obtain ⟨-, hband⟩ := (edgeBand_eq_some hp).mp h
  rw [Spec.storedFrame, hband]
  cases b <;> rfl

theorem maskNumber_eq (f : Frame) : Spec.maskNumber f = (decodeFrame f).mask.toNat := by
  simp only [decodeFrame, toNat_append_eq_add, toNat_ofBool_eq_flag, Spec.maskNumber]
  omega

/-- An EDGE publishes when it brings the last bit of a frame whose mask is 0 (41_packet_validator.md R86). -/
theorem publishes_iff {s : State} {t : Timestamp} (hp : s.cfg.wf) :
    Spec.publishes s t = true ↔ s.st = .frame ∧ s.k = 31#5 ∧
      ∃ b, s.edgeBand t = some (bitBand b) ∧ (decodeFrame (s.withBit b)).mask = 0#2 := by
  have hmask : ∀ b, s.edgeBand t = some (bitBand b) →
      (Spec.maskNumber (Spec.storedFrame s t) = 0 ↔ (decodeFrame (s.withBit b)).mask = 0#2) := by
    intro b hb
    rw [storedFrame_eq hp hb, maskNumber_eq, ← BitVec.toNat_inj]
    rfl
  simp only [Spec.publishes, Spec.completes, Bool.and_eq_true, storesBit_iff hp, beq_iff_eq]
  constructor
  · rintro ⟨⟨⟨hst, b, hb⟩, hk⟩, hm⟩
    exact ⟨hst, hk, b, hb, (hmask b hb).mp hm⟩
  · rintro ⟨hst, hk, b, hb, hm⟩
    exact ⟨⟨⟨hst, b, hb⟩, hk⟩, (hmask b hb).mpr hm⟩

/-- `PUB` after an EDGE (10_state.md R29). -/
theorem State.EdgeEnds.resPub_iff {s u : State} {t : Timestamp} (h : s.EdgeEnds t u) (hp : s.cfg.wf) :
    resPub u.res = true ↔ Spec.publishes s t = true ∨ (Spec.findsRepeat s t = true ∧ s.haveLast = true) := by
  rw [publishes_iff hp, findsRepeat_iff hp]
  cases h with
  | nothing h =>
    obtain h | ⟨hst, -, hr⟩ := h
    · simp [h]
    · simp [hst, hr]
  | sync h => simp [h]
  | repeatCode hst h => simp [hst, h]
  | keep b hst h hk => simp [hst, hk]
  | publish b hst h hk hm => simp [hst, h, hk, hm]
  | reject b hst h hk hm => simp [hst, h, hm]
  | desync q hst h => obtain ⟨-, h⟩ | ⟨-, h⟩ := h <;> simp [hst, h]

/-- Settles O38: by the ways the EDGE ends; a repeat code is no FRAME result, so it leaves the pair. -/
theorem pubMeansPublishOrRepublish : Obligations.PubMeansPublishOrRepublish := by
  unfold Obligations.PubMeansPublishOrRepublish
  intro s t hp ht
  have hends := afterEdge_ends s t
  have hpub := hends.resPub_iff hp
  obtain ⟨hpair, -⟩ := hends.frame
  refine ⟨s.takeEdge t, execEdge_legal ht, hpub, fun hkind => ?_⟩
  obtain ⟨haddr, hcmd, hlast, -⟩ := hpair fun h => absurd (hkind.symm.trans h.1) (by decide)
  exact ⟨haddr, hcmd, hlast⟩

/-- A byte whose XOR with another is 0xFF has it as its complement. -/
theorem eq_not_of_xor_eq {a b : Byte} (h : a ^^^ b = 0xFF#8) : b = ~~~a := by
  calc b = a ^^^ (a ^^^ b) := by rw [← BitVec.xor_assoc, BitVec.xor_self, BitVec.zero_xor]
    _ = a ^^^ BitVec.allOnes 8 := by rw [h]; rfl
    _ = ~~~a := BitVec.xor_allOnes

/-- A frame is its four bytes in arrival order. -/
theorem frame_eq_bytes (f : Frame) :
    f = f.extractLsb' 24 8 ++ f.extractLsb' 16 8 ++ f.extractLsb' 8 8 ++ f.extractLsb' 0 8 := by
  apply BitVec.eq_of_toNat_eq
  simp only [toNat_append_eq_add, BitVec.extractLsb'_toNat, Nat.shiftRight_eq_div_pow]
  omega

/-- A frame of mask 0 is the packet of its pair (41_packet_validator.md R83). -/
theorem eq_packet_of_mask_eq_zero {f : Frame} (h : (decodeFrame f).mask = 0#2) :
    f = Spec.packet (decodeFrame f).addr (decodeFrame f).cmd := by
  obtain ⟨ha, hc⟩ := (decodeFrame_mask_eq_zero f).mp h
  calc f = _ := frame_eq_bytes f
    _ = _ := by rw [eq_not_of_xor_eq ha, eq_not_of_xor_eq hc]; rfl

/-- An EDGE that publishes writes the pair of the frame it stores, all of it. -/
theorem State.EdgeEnds.pair_of_publishes {s u : State} {t : Timestamp} (h : s.EdgeEnds t u) (hp : s.cfg.wf)
    (hpub : Spec.publishes s t = true) :
    u.haveLast = true ∧ u.fr = Spec.storedFrame s t ∧ u.fr = Spec.packet u.lastAddr u.lastCmd := by
  obtain ⟨hst, hk, b, hb, hm⟩ := (publishes_iff hp).mp hpub
  rw [storedFrame_eq hp hb]
  cases h with
  | nothing h => simp [hb, hst] at h
  | sync h => simp [h] at hb
  | repeatCode h => simp [hst] at h
  | keep _ _ _ h => exact absurd hk h
  | publish b' _ hb' =>
    obtain rfl : b' = b := by simpa [hb'] using hb
    exact ⟨rfl, rfl, eq_packet_of_mask_eq_zero hm⟩
  | reject b' _ hb' _ h =>
    obtain rfl : b' = b := by simpa [hb'] using hb
    exact absurd hm h
  | desync _ _ h => obtain ⟨-, h⟩ | ⟨-, h⟩ := h <;> simp [h] at hb

/-- An EDGE that does not publish leaves the pair. -/
theorem State.EdgeEnds.pair_of_not_publishes {s u : State} {t : Timestamp} (h : s.EdgeEnds t u) (hp : s.cfg.wf)
    (hpub : ¬ Spec.publishes s t = true) :
    u.lastAddr = s.lastAddr ∧ u.lastCmd = s.lastCmd ∧ u.haveLast = s.haveLast := by
  cases h with
  | publish b hst hb hk hm => exact absurd ((publishes_iff hp).mpr ⟨hst, hk, b, hb, hm⟩) hpub
  | _ => exact ⟨rfl, rfl, rfl⟩

/-- Settles O42: reset and an empty slot by the step, a word by the four things its step can be. -/
theorem pairWrittenOnlyByValidFrame : Obligations.PairWrittenOnlyByValidFrame := by
  unfold Obligations.PairWrittenOnlyByValidFrame
  intro s t slot rest hp hin hs
  refine ⟨?_, ?_, ?_⟩
  · intro hr
    obtain rfl := Host.Outcome.next.inj ((step_reset (offered_reset hin hr)).symm.trans hs)
    exact ⟨rfl, rfl, rfl⟩
  · intro hr hc
    obtain rfl := Host.Outcome.next.inj ((step_idle (offered_none hin hr hc)).symm.trans hs)
    exact ⟨rfl, rfl, rfl⟩
  · intro hr w hc
    have hword : s.inputs = { reset := false, command := some w } :: rest := by rw [hin, ← hr, ← hc]
    obtain ⟨hi, he⟩ | ⟨hi, ho, he⟩ | ⟨-, ho, he⟩ | ⟨-, ho, -, r, he⟩ := step_command_cases hword <;>
      obtain rfl := Host.Outcome.next.inj (he.symm.trans hs)
    · exact ⟨fun ⟨_, h, _⟩ => absurd hi h, fun _ => ⟨rfl, rfl, rfl⟩⟩
    · have hends := afterEdge_ends s.take (Spec.aLow w)
      have hpub := hends.pair_of_publishes hp
      have hkeep := hends.pair_of_not_publishes hp
      exact ⟨fun ⟨_, _, h⟩ => hpub h, fun h => hkeep fun hw => h ⟨ho, hi, hw⟩⟩
    · exact ⟨fun h => absurd (ho.symm.trans h.1) (by decide), fun _ => ⟨rfl, rfl, rfl⟩⟩
    · exact ⟨fun h => absurd h.1 ho, fun _ => ⟨rfl, rfl, rfl⟩⟩

end Sys2Proof.Machine
end

section
/-! PROOFS. The command port and its driver (20_memory.md): captured timestamps, commands that repeat without effect, and
the queue of `assemble()`. -/

namespace Sys2Proof

/-! ### The word of a command -/

/-- The row of a command's own opcode gives the command back from its own operands (30_encoding.md R58, R59). -/
theorem commandOf_opcode (i : Instr) : commandOf i.opcode i.operandB i.operandA = some i := by
  cases i <;>
    simp [commandOf, Instr.opcode, Instr.operandB, Instr.operandA, BitVec.extractLsb'_setWidth_of_le]

/-- The decoder reads every command from its own word (30_encoding.md R63, R64). -/
theorem decode_encode (i : Instr) : decode (encode i) = .ok i := by
  obtain ⟨hopc, hrsv, hb, ha⟩ := fields_of_append i.opcode 0#8 i.operandB i.operandA
  rw [encode]
  exact decode_of_command hrsv (by rw [hopc, hb, ha, commandOf_opcode])

namespace Machine

/-! ### The captured counter -/

/-- The captured counter value is the true time modulo `M`: 16 bits lose nothing (20_memory.md R53). -/
theorem captured_toNat {p : Params} (hp : p.wf) (time : Nat) : (captured p time).toNat = time % p.m := by
  obtain ⟨hlo, hhi⟩ := hp
  have hlt : time % p.m < p.m := Nat.mod_lt _ (by omega)
  rw [captured, BitVec.toNat_ofNat]
  exact Nat.mod_eq_of_lt (by omega)

theorem captured_lt {p : Params} (hp : p.wf) (time : Nat) : (captured p time).toNat < p.m := by
  rw [captured_toNat hp]
  exact Nat.mod_lt _ (Nat.zero_lt_of_lt hp.1)

/-- The interval between two captured times is the true duration modulo `M` (70_reset_and_hazards.md R121). -/
theorem unwrapInterval_captured {p : Params} (hp : p.wf) (time duration : Nat) :
    (unwrapInterval p (captured p time) (captured p (time + duration))).toNat = duration % p.m := by
  have hmod : (((time + duration) % p.m : Nat) - (time % p.m : Nat) : Int) % p.m = (duration % p.m : Nat) := by
    push_cast
    rw [← Int.sub_emod, add_sub_cancel_left]
  rw [unwrapInterval_toNat hp, captured_toNat hp, captured_toNat hp, hmod, Int.toNat_natCast]

/-- Settles O18: both captured times are legal operands, and their interval is the duration modulo `M`. -/
theorem unwrapAliasesModuloM : Obligations.UnwrapAliasesModuloM := by
  unfold Obligations.UnwrapAliasesModuloM
  intro s time duration hp
  rw [Spec.answer, ← unwrapInterval_captured hp time, BitVec.ofNat_toNat]
  exact execUnwrap_legal (captured_lt hp _) (captured_lt hp _)

/-! ### Commands that repeat without effect -/

theorem run_succ_of_step {s u : State} (h : step s = .next u) (n : Nat) :
    Host.Core.run core (n + 1) s = Host.Core.run core n u := by
  simp only [Host.Core.run, core, h]

/-- The step of a driver that issues commands runs the first and leaves the others to come. -/
theorem step_issueAll_cons (s : State) (i : Instr) (is : List Instr) :
    step (s.issueAll (i :: is)) = exec i (s.issueAll is) :=
  step_decoded (offered_offerWord (s.issueAll is) (encode i)) (decode_encode i)

/-- The state with other slots still to come and another last response. -/
def State.withPorts (s : State) (inputs : List PortSlot) (resp : Option RespWord) : State :=
  { s with inputs := inputs, resp := resp }

/-- A well-formed command that changes nothing answers one response, whatever the driver presents after it and whatever
the last step answered (20_memory.md R46). -/
theorem exec_of_changesNothing {i : Instr} {s : State} (hi : Spec.changesNothing i = true) (hwf : i.wf s.cfg = true) :
    ∃ r, ∀ inputs resp, exec i (s.withPorts inputs resp) = .next (s.withPorts inputs (some r)) := by
  cases i with
  | edge | clear => cases hi
  | nop => exact ⟨0#32, fun _ _ => rfl⟩
  | getAddress => exact ⟨s.lastAddr.setWidth 32, fun _ _ => rfl⟩
  | getCommand => exact ⟨s.lastCmd.setWidth 32, fun _ _ => rfl⟩
  | getPair => exact ⟨s.pairWord, fun _ _ => rfl⟩
  | getStatus => exact ⟨s.statusWord, fun _ _ => rfl⟩
  | getFrame => exact ⟨s.fr, fun _ _ => rfl⟩
  | getCounters => exact ⟨s.countersWord, fun _ _ => rfl⟩
  | unwrap e l =>
    obtain ⟨he, hl⟩ : e.toNat < s.cfg.m ∧ l.toNat < s.cfg.m := by simpa [Instr.wf] using hwf
    exact ⟨(unwrapInterval s.cfg e l).setWidth 32, fun _ _ => execUnwrap_legal (s := s.withPorts _ _) he hl⟩
  | classify iv => exact ⟨(bandCode (classifyInterval s.cfg iv)).setWidth 32, fun _ _ => rfl⟩
  | decode f => exact ⟨(decodeFrame f).word, fun _ _ => rfl⟩

/-- A command that answers `r` and keeps the registers, issued any number of times, ends in `r` and the same registers. -/
theorem run_replicate {i : Instr} {s : State} {r : RespWord}
    (h : ∀ inputs resp, exec i (s.withPorts inputs resp) = .next (s.withPorts inputs (some r))) (n : Nat) :
    ∀ resp, Host.Core.run core (n + 1) ((s.withPorts s.inputs resp).issueAll (List.replicate (n + 1) i))
      = .next (s.withPorts s.inputs (some r)) := by
  have hstep : ∀ is resp, step ((s.withPorts s.inputs resp).issueAll (i :: is))
      = .next ((s.withPorts s.inputs (some r)).issueAll is) :=
    fun is resp => (step_issueAll_cons _ i is).trans (h _ resp)
  induction n with
  | zero => exact fun resp => run_succ_of_step (hstep [] resp) 0
  | succ n ih => exact fun resp => (run_succ_of_step (hstep (List.replicate (n + 1) i) resp) _).trans (ih (some r))

/-- Settles O24: the command keeps the registers it reads, so each repetition answers as the first. -/
theorem readoutsRepeatWithoutEffect : Obligations.ReadoutsRepeatWithoutEffect := by
  unfold Obligations.ReadoutsRepeatWithoutEffect
  intro i s hi hwf
  obtain ⟨r, hr⟩ := exec_of_changesNothing hi hwf
  exact ⟨r, fun n => run_replicate hr n s.resp⟩

/-! ### The queue of `assemble()` -/

/-- The call ends at a timestamp whose EDGE answers a result (40_frame_assembler.md R79). -/
theorem assembleCall_cons_of_result {s : State} {t : Timestamp} {r : RespWord} (ts : List Timestamp)
    (hr : (s.afterEdgeCommand t).resp = some r) (h : isResult r = true) :
    assembleCall (t :: ts) s = { result := some r, queue := ts, state := s.afterEdgeCommand t } := by
  simp [assembleCall, hr, h]

/-- The call goes on past a timestamp whose EDGE answers no result (40_frame_assembler.md R79). -/
theorem assembleCall_cons_of_no_result {s : State} {t : Timestamp} (ts : List Timestamp)
    (h : ∀ r, (s.afterEdgeCommand t).resp = some r → isResult r = false) :
    assembleCall (t :: ts) s = assembleCall ts (s.afterEdgeCommand t) := by
  cases hr : (s.afterEdgeCommand t).resp with
  | none => simp [assembleCall, hr]
  | some r => simp [assembleCall, hr, h r hr]

/-- Settles O52, by induction on the queue: the call takes nothing from an empty queue, the first timestamp alone when it
gives a result, and otherwise the first timestamp and what the call takes after it. -/
theorem assembleTakesPrefixInOrder : Obligations.AssembleTakesPrefixInOrder := by
  unfold Obligations.AssembleTakesPrefixInOrder
  intro ts
  induction ts with
  | nil => exact fun s => ⟨[], rfl, rfl, fun _ => rfl, nofun, by simp⟩
  | cons t ts ih =>
    intro s
    by_cases h : ∃ r, (s.afterEdgeCommand t).resp = some r ∧ isResult r = true
    · obtain ⟨r, hr, hres⟩ := h
      rw [assembleCall_cons_of_result ts hr hres]
      refine ⟨[t], rfl, rfl, nofun, fun r' h' => ?_, ?_⟩
      · obtain rfl := Option.some.inj h'
        exact ⟨hres, hr⟩
      · intro first x last htaken hmore
        cases first with
        | nil =>
          obtain ⟨-, rfl⟩ := List.cons.inj htaken
          simp at hmore
        | cons y first => simp at htaken
    · have hnone : ∀ r, (s.afterEdgeCommand t).resp = some r → isResult r = false := by simpa using h
      obtain ⟨taken, hqueue, hstate, hempty, hstop, hbefore⟩ := ih (s.afterEdgeCommand t)
      rw [assembleCall_cons_of_no_result ts hnone]
      refine ⟨t :: taken, congrArg (t :: ·) hqueue, hstate, hempty, hstop, ?_⟩
      intro first x last htaken hmore
      cases first with
      | nil =>
        obtain ⟨rfl, -⟩ := List.cons.inj htaken
        exact hnone
      | cons y first =>
        obtain ⟨rfl, hrest⟩ := List.cons.inj htaken
        exact hbefore first x last hrest hmore

end Machine

end Sys2Proof
end

section
/-! PROOFS. The encoding (30_encoding.md): the decoder reads each command from the bits the command uses, and ILLEGAL is
exactly the words of R63's grounds. -/

namespace Sys2Proof

open Machine

/-! ### A word by its fields -/

/-- Two words are equal exactly when their four fields are (30_encoding.md R55). -/
theorem cmdWord_ext_iff {w x : CmdWord} : w = x ↔
    opcField w = opcField x ∧ rsvField w = rsvField x ∧ bField w = bField x ∧ aField w = aField x := by
  have happend (v : CmdWord) : v = opcField v ++ rsvField v ++ bField v ++ aField v := by
    simp only [opcField, rsvField, bField, aField]
    rw [BitVec.extractLsb'_append_extractLsb'_eq_extractLsb' (by rfl),
      BitVec.extractLsb'_append_extractLsb'_eq_extractLsb' (by rfl),
      BitVec.extractLsb'_append_extractLsb'_eq_extractLsb' (by rfl), BitVec.extractLsb'_eq_self]
  constructor
  · rintro rfl
    exact ⟨rfl, rfl, rfl, rfl⟩
  · rintro ⟨hopc, hrsv, hb, ha⟩
    rw [happend w, happend x, hopc, hrsv, hb, ha]

@[simp] theorem opcField_and (w x : CmdWord) : opcField (w &&& x) = opcField w &&& opcField x :=
  BitVec.extractLsb'_and

@[simp] theorem rsvField_and (w x : CmdWord) : rsvField (w &&& x) = rsvField w &&& rsvField x :=
  BitVec.extractLsb'_and

@[simp] theorem bField_and (w x : CmdWord) : bField (w &&& x) = bField w &&& bField x := BitVec.extractLsb'_and

@[simp] theorem aField_and (w x : CmdWord) : aField (w &&& x) = aField w &&& aField x := BitVec.extractLsb'_and

/-! ### The used bits -/

/-- The bits of `B` that a command lists (30_encoding.md R58). -/
def Instr.listedB : Instr → BitVec 16
  | .unwrap _ _ => .allOnes 16
  | .nop | .edge _ | .clear | .getAddress | .getCommand | .getPair | .getStatus | .getFrame
  | .getCounters | .classify _ | .decode _ => 0#16

/-- The bits of `A` that a command lists (30_encoding.md R58). -/
def Instr.listedA : Instr → BitVec 32
  | .edge _ | .unwrap _ _ | .classify _ => 0xFFFF#32
  | .decode _ => .allOnes 32
  | .nop | .clear | .getAddress | .getCommand | .getPair | .getStatus | .getFrame | .getCounters => 0#32

/-- `OPC` and `RSV` are used by every command, `B` and `A` as far as it lists them. -/
theorem usedBits_eq_append (i : Instr) :
    Spec.usedBits i = BitVec.allOnes 8 ++ BitVec.allOnes 8 ++ i.listedB ++ i.listedA := by
  cases i <;> simp only [Spec.usedBits, Instr.listedB, Instr.listedA] <;> decide

/-- A word holds the used bits of a command as the encoder sets them exactly when each of its fields does. -/
theorem and_usedBits_eq_encode_iff {w : CmdWord} {i : Instr} : w &&& Spec.usedBits i = encode i ↔
    opcField w = i.opcode ∧ rsvField w = 0#8 ∧ bField w &&& i.listedB = i.operandB ∧
      aField w &&& i.listedA = i.operandA := by
  obtain ⟨hopc, hrsv, hb, ha⟩ := fields_of_append i.opcode 0#8 i.operandB i.operandA
  obtain ⟨hopc', hrsv', hb', ha'⟩ := fields_of_append (.allOnes 8) (.allOnes 8) i.listedB i.listedA
  rw [cmdWord_ext_iff, encode, hopc, hrsv, hb, ha, usedBits_eq_append, opcField_and, rsvField_and, bField_and,
    aField_and, hopc', hrsv', hb', ha', BitVec.and_allOnes, BitVec.and_allOnes]

/-- The low half of the operand field `A`, which EDGE, UNWRAP and CLASSIFY list (30_encoding.md R58). -/
theorem and_lowHalf_eq_iff {a : BitVec 32} {t : BitVec 16} :
    a &&& 0xFFFF#32 = t.setWidth 32 ↔ a.extractLsb' 0 16 = t := by
  have hmask : a &&& 0xFFFF#32 = (a.extractLsb' 0 16).setWidth 32 := by
    apply BitVec.eq_of_toNat_eq
    simp [Nat.and_two_pow_sub_one_eq_mod a.toNat 16]
    omega
  rw [hmask]
  exact ⟨fun h => by simpa [BitVec.setWidth_setWidth_of_le] using congrArg (BitVec.setWidth 16) h, congrArg _⟩

/-- The row of a command's opcode gives the command exactly when the fields' listed bits are its operands. -/
theorem commandOf_opcode_eq_some_iff {b : BitVec 16} {a : BitVec 32} {i : Instr} : commandOf i.opcode b a = some i ↔
    b &&& i.listedB = i.operandB ∧ a &&& i.listedA = i.operandA := by
  cases i <;>
    simp [commandOf, Instr.opcode, Instr.operandB, Instr.operandA, Instr.listedB, Instr.listedA,
      and_lowHalf_eq_iff, and_comm, -BitVec.reduceAllOnes]

/-- The decoder reads a command from a word exactly when the bits the command uses are those of its encoding, whatever
the others are (30_encoding.md R58, R63, R64). -/
theorem decode_eq_ok_iff_usedBits {w : CmdWord} {i : Instr} :
    decode w = .ok i ↔ w &&& Spec.usedBits i = encode i := by
  rw [decode_eq_ok, and_usedBits_eq_encode_iff, ← commandOf_opcode_eq_some_iff]
  constructor
  · rintro ⟨hrsv, hrow⟩
    obtain ⟨hnone, -⟩ | ⟨j, hj, hopc, -⟩ := commandOf_cases (opcField w) (bField w) (aField w)
    · simp [hnone] at hrow
    · obtain rfl := Option.some.inj (hj.symm.trans hrow)
      exact ⟨hopc, hrsv, hopc ▸ hrow⟩
  · rintro ⟨hopc, hrsv, hrow⟩
    exact ⟨hrsv, hopc ▸ hrow⟩

/-- Settles O4: a word decodes to `i` exactly when its used bits are those of `encode i`. -/
theorem unlistedBitsIgnored : Obligations.UnlistedBitsIgnored := by
  unfold Obligations.UnlistedBitsIgnored
  intro w x i hw hx
  have hencode : w &&& Spec.usedBits i = encode i := decode_eq_ok_iff_usedBits.mp hw
  exact ⟨decode_eq_ok_iff_usedBits.mpr (hx.trans hencode), hencode.symm⟩

/-! ### Encoded commands -/

/-- The value checks of `M` come after the decoder (30_encoding.md R63). -/
theorem decodeLegal_of_decoded {w : CmdWord} {i : Instr} (h : decode w = .ok i) (p : Params) :
    decodeLegal p w = if i.wf p then some i else none := by
  simp [decodeLegal, h]

/-- Settles O1: the decoder reads the command back, and the value checks follow it. -/
theorem decodeOfEncode : Obligations.DecodeOfEncode := by
  unfold Obligations.DecodeOfEncode
  exact fun i => ⟨decode_encode i, decodeLegal_of_decoded (decode_encode i)⟩

/-- The word that encodes a command decodes to it. -/
theorem decode_of_encode_eq {i : Instr} {w : CmdWord} (h : encode i = w) : decode w = .ok i ∧ encode i = w :=
  ⟨h ▸ decode_encode i, h⟩

/-- Settles O2: each word of R66 is its command's encoding, by evaluation, and so decodes to it. -/
theorem workedEncodings : Obligations.WorkedEncodings := by
  unfold Obligations.WorkedEncodings
  refine ⟨?_, ?_, ?_, ?_, ?_, ?_, ?_⟩
  all_goals exact decode_of_encode_eq rfl

/-! ### The whole decoder -/

/-- The whole decoder refuses exactly the illegal words (30_encoding.md R62, R63). -/
theorem decodeLegal_eq_none_iff {p : Params} {w : CmdWord} : decodeLegal p w = none ↔ Spec.IllegalWord p w := by
  cases hd : decode w with
  | error e => simp only [decodeLegal, hd, illegalWord_of_rejected hd p]
  | ok i => simp [decodeLegal_of_decoded hd, illegalWord_iff_of_decoded hd]

/-- A legal word is the row of its opcode (30_encoding.md R59, R63). -/
theorem decodeLegal_of_row {p : Params} {w : CmdWord} {o : BitVec 8} {i : Instr} (hlegal : ¬ Spec.IllegalWord p w)
    (hrow : commandOf o (bField w) (aField w) = some i) (hopc : Spec.opc w = o) : decodeLegal p w = some i := by
  subst hopc
  have hrsv : rsvField w = 0#8 := not_not.mp fun h => hlegal (.inl h)
  have hd : decode w = .ok i := decode_of_command hrsv hrow
  have hwf : i.wf p = true := by simpa [illegalWord_iff_of_decoded hd] using hlegal
  rw [decodeLegal_of_decoded hd, if_pos hwf]

/-- Settles O3: the illegal words are those refused, and a legal word is the row of its opcode. -/
theorem decoderRowsAndIllegalSpace : Obligations.DecoderRowsAndIllegalSpace := by
  unfold Obligations.DecoderRowsAndIllegalSpace
  intro p w
  rw [← aLow_eq]
  refine ⟨decodeLegal_eq_none_iff.mpr, fun hlegal => ⟨?_, ?_, ?_, ?_, ?_, ?_, ?_, ?_, ?_, ?_, ?_, ?_⟩⟩
  all_goals exact decodeLegal_of_row hlegal rfl

end Sys2Proof
end

section
/-! PROOFS. The frame assembler (40_frame_assembler.md): what a legal EDGE does by the band of its interval, the
normative pseudocode, CLEAR, the bits of `FR`, and the decoding of a well-formed frame. -/

namespace Sys2Proof.Machine

/-! ### The row of a decoded word -/

/-- A word with `RSV = 0` decodes to the row of its opcode (30_encoding.md R59). -/
theorem decode_of_row {w : CmdWord} {o : BitVec 8} {i : Instr} (hopc : Spec.opc w = o) (hrsv : Spec.rsv w = 0#8)
    (hrow : commandOf o (bField w) (aField w) = some i) : decode w = .ok i := by
  subst hopc
  exact decode_of_command hrsv hrow

/-! ### The parts of an EDGE, in the registers' own terms -/

theorem shiftedW0_eq (s : State) (t : Timestamp) : s.shiftedW0 t = Spec.w0After s t := by
  rw [State.shiftedW0, Spec.w0After]
  cases s.cfg.stride <;> rfl

theorem shiftedW1_eq (s : State) (t : Timestamp) : s.shiftedW1 t = Spec.w1After s t := by
  rw [State.shiftedW1, Spec.w1After]
  cases s.cfg.stride <;> rfl

/-- The shift, with the window as 40_frame_assembler.md R70 gives it. -/
theorem shiftWindow_eq (s : State) (t : Timestamp) : s.shiftWindow t =
    { s with w0 := Spec.w0After s t, w1 := Spec.w1After s t, hc := s.shiftedHc, ph := s.nextPhase } := by
  rw [State.shiftWindow, shiftedW0_eq, shiftedW1_eq]

/-- A full window stays full (40_frame_assembler.md R70). -/
theorem shiftedHc_of_full {s : State} (h : s.hc.toNat = s.cfg.stride.toNat) : s.shiftedHc = s.hc := by
  apply BitVec.eq_of_toNat_eq
  rw [shiftedHc_toNat]
  omega

theorem measures_hunt {s : State} (h : s.st = .hunt) :
    Spec.measures s = true ↔ s.hc.toNat = s.cfg.stride.toNat := by simp [Spec.measures, h]

theorem measures_frame {s : State} (h : s.st = .frame) :
    Spec.measures s = true ↔ s.ph.toNat = s.cfg.stride.toNat - 1 := by simp [Spec.measures, h]

/-- The phase goes on only off a boundary edge of FRAME (40_frame_assembler.md R72). -/
theorem nextPhase_eq (s : State) :
    s.nextPhase = if s.st = .frame ∧ Spec.measures s = false then s.ph + 1#1 else 0#1 := by
  cases hst : s.st with
  | hunt => simp [nextPhase_of_hunt hst]
  | frame => simp [State.nextPhase, Spec.measures, hst]

theorem nextPhase_of_measures {s : State} (h : Spec.measures s = true) : s.nextPhase = 0#1 := by simp [nextPhase_eq, h]

theorem edgeBand_eq_none {s : State} {t : Timestamp} : s.edgeBand t = none ↔ Spec.measures s = false := by
  rw [State.edgeBand, measured_eq]
  cases Spec.measures s <;> simp

theorem measures_of_edgeBand {s : State} {t : Timestamp} {b : Band} (h : s.edgeBand t = some b) :
    Spec.measures s = true :=
  Bool.of_not_eq_false fun hm => by simp [edgeBand_eq_none.mpr hm] at h

/-- An EDGE that measures nothing only shifts the window and moves the phase on (40_frame_assembler.md R69, R77). -/
theorem afterEdge_of_measures_false {s : State} (h : Spec.measures s = false) (t : Timestamp) :
    s.afterEdge t = (s.shiftWindow t).setRes resNeedMoreData := by simp [State.afterEdge, measured_eq, h]

/-- An EDGE that measures an interval acts on its band after the shift (40_frame_assembler.md R71, R72, R77). -/
theorem afterEdge_of_edgeBand {s : State} {t : Timestamp} {b : Band} (h : s.edgeBand t = some b) :
    s.afterEdge t = (s.shiftWindow t).act b := by
  obtain ⟨iv, hiv, rfl⟩ := Option.map_eq_some_iff.mp h
  simp only [State.afterEdge, hiv]

theorem act_hunt {s : State} (h : s.st = .hunt) (b : Band) : s.act b = s.actHunt b := by simp [State.act, h]

theorem act_frame {s : State} (h : s.st = .frame) (b : Band) : s.act b = s.actFrame b := by simp [State.act, h]

/-- The whole EDGE is the registers after it, with some response. -/
theorem takeEdge_eq {s u : State} {t : Timestamp} (h : s.afterEdge t = u) :
    s.takeEdge t = { u with resp := (s.takeEdge t).resp } := by
  subst h
  rfl

/-! ### The normative pseudocode -/

/-- The events of the pseudocode that end no frame, by the band of the interval (40_frame_assembler.md R71 to R75). -/
theorem events_eq {s : State} {t : Timestamp} (hp : s.cfg.wf) :
    Spec.findsSync s t = decide (s.edgeBand t = some .sync) ∧
    Spec.findsRepeat s t = decide (s.st = .hunt ∧ s.edgeBand t = some .repeatMarker) ∧
    Spec.storesBit s t = decide (s.st = .frame ∧ ∃ b, s.edgeBand t = some (bitBand b)) ∧
    Spec.aborts s t =
      decide (s.st = .frame ∧ (s.edgeBand t = some .invalid ∨ s.edgeBand t = some .repeatMarker)) := by
  refine ⟨?_, ?_, ?_, ?_⟩ <;> rw [Bool.eq_iff_iff, decide_eq_true_iff]
  · simp [Spec.findsSync, edgeBand_eq_some hp, bandCode]
  · exact findsRepeat_iff hp
  · exact storesBit_iff hp
  · simp [Spec.aborts, edgeBand_eq_some hp, bandCode]
    tauto

/-- A boundary edge that brings a bit stores it, and is none of the other events. -/
theorem events_of_bit {s : State} {t : Timestamp} {b : Bool} (hp : s.cfg.wf) (hst : s.st = .frame)
    (h : s.edgeBand t = some (bitBand b)) :
    Spec.findsSync s t = false ∧ Spec.findsRepeat s t = false ∧ Spec.storesBit s t = true ∧
      Spec.aborts s t = false ∧ Spec.storedFrame s t = s.withBit b := by
  obtain ⟨hsync, hrepeat, hstores, haborts⟩ := events_eq (t := t) hp
  rw [hsync, hrepeat, hstores, haborts, storedFrame_eq hp h, h, hst]
  cases b <;> simp [bitBand]

/-- `RES` as the number of its four fields (10_state.md R25). -/
theorem packRes_eq (x : ResultKind) (q : DesyncReason) (c : BitVec 2) (b : Bool) :
    packRes x q c b = BitVec.ofNat 8 (Spec.resNumber x.code.toNat q.code.toNat c.toNat (Spec.flag b)) := by
  apply BitVec.eq_of_toNat_eq
  simp only [packRes, Spec.resNumber, toNat_append_eq_add, toNat_ofBool_eq_flag, BitVec.toNat_ofNat]
  have hflag : Spec.flag b < 2 := by cases b <;> decide
  omega

@[simp] theorem flag_true : Spec.flag true = 1 := rfl
@[simp] theorem flag_false : Spec.flag false = 0 := rfl

theorem ofNat_toNat_add {n : Nat} (x : BitVec n) (m : Nat) : BitVec.ofNat n (x.toNat + m) = x + BitVec.ofNat n m := by
  rw [BitVec.ofNat_add, BitVec.ofNat_toNat, BitVec.setWidth_eq]

@[simp] theorem decodeFrame_addr (f : Frame) : (decodeFrame f).addr = f.extractLsb' 0 8 := rfl
@[simp] theorem decodeFrame_cmd (f : Frame) : (decodeFrame f).cmd = f.extractLsb' 16 8 := rfl

/-- The registers after an EDGE are those of the pseudocode, event by event (40_frame_assembler.md R77). -/
theorem State.EdgeEnds.eq_edgeRegisters {s u : State} {t : Timestamp} (h : s.EdgeEnds t u) (hp : s.cfg.wf) :
    u = Spec.edgeRegisters s t := by
  simp only [Spec.edgeRegisters, Spec.publishes, Spec.rejects, Spec.completes, ofNat_toNat_add, maskNumber_eq,
    ← nextPhase_eq]
  cases h with
  | nothing h =>
    obtain h | ⟨hst, hs, hr⟩ := h
    · simp [events_eq hp, h, shiftWindow_eq, State.setRes, State.shiftedHc, resNeedMoreData, packRes_eq]
    · simp [events_eq hp, hst, hs, hr, shiftWindow_eq, State.setRes, State.shiftedHc, resNeedMoreData, packRes_eq]
  | sync h =>
    have hph := nextPhase_of_measures (measures_of_edgeBand h)
    simp [events_eq hp, h, hph, shiftWindow_eq, State.startFrame, State.shiftedHc, packRes_eq]
  | repeatCode hst h => simp [events_eq hp, hst, h, shiftWindow_eq, State.repeatCode, packRes_eq]
  | keep b hst h hk =>
    have hlast : (s.k == 31#5) = false := beq_false_of_ne hk
    simp [events_of_bit hp hst h, hlast, shiftWindow_eq, State.keepBit, State.shiftedHc, resNeedMoreData, packRes_eq]
  | publish b hst h hk hm =>
    have hph := nextPhase_of_measures (measures_of_edgeBand h)
    simp [events_of_bit hp hst h, hk, hm, hph, shiftWindow_eq, State.endFrame, State.publish, packRes_eq]
  | reject b hst h hk hm =>
    have hph := nextPhase_of_measures (measures_of_edgeBand h)
    have hmask : ((decodeFrame (s.withBit b)).mask.toNat == 0) = false :=
      beq_false_of_ne fun h => hm (BitVec.eq_of_toNat_eq h)
    simp [events_of_bit hp hst h, hk, hmask, bne, hph, shiftWindow_eq, State.endFrame, State.reject, packRes_eq]
  | desync q hst h =>
    obtain ⟨rfl, h⟩ | ⟨rfl, h⟩ := h <;> obtain ⟨hmeasures, hband⟩ := (edgeBand_eq_some hp).mp h <;>
      simp [events_eq hp, hst, h, nextPhase_of_measures hmeasures, hband, shiftWindow_eq, State.desync,
        State.shiftedHc, packRes_eq, bandCode, DesyncReason.code]

/-- A legal EDGE takes the timestamp as the pseudocode does, with the same response. -/
theorem takeEdge_eq_edge {s : State} (hp : s.cfg.wf) (t : Timestamp) : s.takeEdge t = Spec.edge s t := by
  rw [State.takeEdge, statusWord_eq, (afterEdge_ends s t).eq_edgeRegisters hp]
  rfl

/-- Settles O28: the registers after a legal EDGE are the pseudocode's by the ways it can end, and its response is their
STATUS word; a timestamp that is not below `M` takes the illegal-command path. -/
theorem edgeFollowsPseudocode : Obligations.EdgeFollowsPseudocode := by
  unfold Obligations.EdgeFollowsPseudocode
  refine ⟨fun w hopc hrsv => decode_of_row hopc hrsv ?_, fun s t hp => ⟨fun ht => ?_, execEdge_illegal⟩⟩
  · exact congrArg (fun t => some (Instr.edge t)) (aLow_eq w)
  · exact (execEdge_legal ht).trans (congrArg _ (takeEdge_eq_edge hp t))

/-! ### EDGE, case by case -/

/-- `HC` after an EDGE: a repeat code and a completed frame empty the window, any other EDGE counts on
(40_frame_assembler.md R70, R71, R76). -/
theorem State.EdgeEnds.hc_eq {s u : State} {t : Timestamp} (h : s.EdgeEnds t u) :
    u.hc = if resKind u.res = 2#3 ∨ resKind u.res = 3#3 then 0#2 else s.shiftedHc := by
  cases h <;> simp

/-- The cells after a legal EDGE (40_frame_assembler.md R70). -/
theorem takeEdge_window (s : State) (t : Timestamp) :
    (s.takeEdge t).w0 = s.shiftedW0 t ∧ (s.takeEdge t).w1 = s.shiftedW1 t := by
  obtain ⟨h0, h1, -⟩ := afterEdge_window s t
  exact ⟨h0, h1⟩

theorem takeEdge_hc (s : State) (t : Timestamp) :
    (s.takeEdge t).hc =
      if resKind (s.takeEdge t).res = 2#3 ∨ resKind (s.takeEdge t).res = 3#3 then 0#2 else s.shiftedHc :=
  (afterEdge_ends s t).hc_eq

/-- Settles O29: every way an EDGE ends leaves the window shifted, and its result says what becomes of `HC`. -/
theorem edgeShiftsWindow : Obligations.EdgeShiftsWindow := by
  unfold Obligations.EdgeShiftsWindow
  intro s t ht
  obtain ⟨h0, h1⟩ := takeEdge_window s t
  have hhc := takeEdge_hc s t
  refine ⟨s.takeEdge t, execEdge_legal ht, fun hs => ?_, fun hs => ?_, fun hempty => ?_, fun hfull => ?_⟩
  · simp [h0, h1, State.shiftedW0, State.shiftedW1, hs]
  · simp [h0, h1, State.shiftedW0, State.shiftedW1, hs]
  · rw [hhc, if_pos hempty]
  · rw [hhc, if_neg hfull, shiftedHc_toNat]

/-- Settles O30: both conditions say that the EDGE measures nothing. -/
theorem edgeWithoutInterval : Obligations.EdgeWithoutInterval := by
  unfold Obligations.EdgeWithoutInterval
  intro s t ht hcase
  have hnone : Spec.measures s = false := by
    rw [← Bool.not_eq_true]
    obtain ⟨hst, hne⟩ | ⟨hst, hne⟩ := hcase
    · exact mt (measures_hunt hst).mp hne
    · exact mt (measures_frame hst).mp hne
  have hafter := afterEdge_of_measures_false hnone t
  have hhc : (s.takeEdge t).hc = s.shiftedHc := congrArg State.hc hafter
  refine ⟨s.takeEdge t, execEdge_legal ht, (takeEdge_eq hafter).trans ?_, by rw [hhc, shiftedHc_toNat]⟩
  cases hst : s.st <;>
    simp [hhc, shiftWindow_eq, State.setRes, resNeedMoreData_eq, nextPhase_eq, hst, hnone]

section Measured

variable {s : State} {t : Timestamp}

/-- The window entries after an EDGE that counts on in `HC` (10_state.md R23, 40_frame_assembler.md R70). -/
theorem entry?_takeEdge (h : (s.takeEdge t).hc = s.shiftedHc) (j : Nat) :
    (s.takeEdge t).entry? j = if j + 1 = s.cfg.stride.toNat then some t else s.entry? (j + 1) := by
  obtain ⟨h0, h1⟩ := takeEdge_window s t
  rw [← entry?_shiftWindow]
  exact entry?_congr (s := s.shiftWindow t) (afterEdge_cfg s t) h h0 h1 j

/-- An EDGE that measures an interval over a full window only shifts the cells and clears the phase before it acts
(40_frame_assembler.md R70, R72). -/
theorem shiftWindow_of_full (hm : Spec.measures s = true) (hfull : s.hc.toNat = s.cfg.stride.toNat) :
    s.shiftWindow t = { s with w0 := Spec.w0After s t, w1 := Spec.w1After s t, ph := 0#1 } := by
  rw [shiftWindow_eq, shiftedHc_of_full hfull, nextPhase_of_measures hm]

/-- Every interval is in one of the bands. -/
theorem exists_band (hp : s.cfg.wf) : ∃ b, Spec.bandFromAnchor s t = (bandCode b).toNat :=
  ⟨_, by rw [bandCode_classifyInterval, unwrapInterval_toNat hp, Spec.bandFromAnchor, Spec.interval]⟩

/-- A candidate in HUNT acts on its band (40_frame_assembler.md R71). -/
theorem afterEdge_candidate (hp : s.cfg.wf) (hst : s.st = .hunt) (hfull : s.hc.toNat = s.cfg.stride.toNat) {b : Band}
    (h : Spec.bandFromAnchor s t = (bandCode b).toNat) : s.afterEdge t = (s.shiftWindow t).actHunt b := by
  rw [afterEdge_of_edgeBand ((edgeBand_eq_some hp).mpr ⟨(measures_hunt hst).mpr hfull, h⟩)]
  exact act_hunt (s := s.shiftWindow t) hst b

/-- A boundary edge in FRAME acts on the band of its interval (40_frame_assembler.md R72). -/
theorem afterEdge_boundary (hp : s.cfg.wf) (hst : s.st = .frame) (hph : s.ph.toNat = s.cfg.stride.toNat - 1) {b : Band}
    (h : Spec.bandFromAnchor s t = (bandCode b).toNat) : s.afterEdge t = (s.shiftWindow t).actFrame b := by
  rw [afterEdge_of_edgeBand ((edgeBand_eq_some hp).mpr ⟨(measures_frame hst).mpr hph, h⟩)]
  exact act_frame (s := s.shiftWindow t) hst b

/-- An accepted bit below position 31 is kept (40_frame_assembler.md R73). -/
theorem acceptBit_of_ne (b : Bool) (h : s.k ≠ 31#5) : s.acceptBit b = s.keepBit (s.withBit b) := by
  simp [State.acceptBit, h]

/-- The bit accepted at position 31 completes the frame (40_frame_assembler.md R76). -/
theorem acceptBit_of_last (b : Bool) (h : s.k = 31#5) : s.acceptBit b = s.completeFrame (s.withBit b) := by
  simp [State.acceptBit, h]

/-- A completed frame, valid or not, leaves the frame in `FR`, HUNT with an empty window, and the result FRAME
(40_frame_assembler.md R76). -/
theorem completeFrame_ends (s : State) (f : Frame) :
    (s.completeFrame f).fr = f ∧ (s.completeFrame f).st = .hunt ∧ (s.completeFrame f).k = 0#5 ∧
      (s.completeFrame f).ph = 0#1 ∧ (s.completeFrame f).hc = 0#2 ∧ resKind (s.completeFrame f).res = 3#3 := by
  by_cases hm : (decodeFrame f).mask = 0#2 <;> simp [State.completeFrame, hm]

/-- A boundary edge whose interval is a bit accepts that bit (40_frame_assembler.md R73). -/
theorem afterEdge_bit (hp : s.cfg.wf) (hst : s.st = .frame) (hph : s.ph.toNat = s.cfg.stride.toNat - 1) {b : Bool}
    (h : Spec.bandFromAnchor s t = if b then 4 else 3) : s.afterEdge t = (s.shiftWindow t).acceptBit b := by
  cases b with
  | false => exact afterEdge_boundary (b := .bit0) hp hst hph h
  | true => exact afterEdge_boundary (b := .bit1) hp hst hph h

end Measured

/-- Settles O31: the candidate acts on its band, after a shift that keeps `HC` and the phase. -/
theorem huntCandidateActs : Obligations.HuntCandidateActs := by
  unfold Obligations.HuntCandidateActs
  intro s t hp ht hst hidle hfull
  obtain ⟨-, hph⟩ := hidle hst
  have hshift := shiftWindow_of_full (t := t) ((measures_hunt hst).mpr hfull) hfull
  obtain ⟨b, hb⟩ := exists_band (t := t) hp
  have hact : s.afterEdge t = (s.shiftWindow t).actHunt b := afterEdge_candidate hp hst hfull hb
  rw [hb]
  refine ⟨s.takeEdge t, execEdge_legal ht, fun h => ?_, fun h => ?_, fun hs hr => ?_⟩
  · obtain rfl : b = .sync := bandCode_toNat_inj.mp h
    refine (takeEdge_eq hact).trans ?_
    simp [State.actHunt, State.startFrame, hshift, packRes_eq, Spec.resNumber]
  · obtain rfl : b = .repeatMarker := bandCode_toNat_inj.mp h
    refine (takeEdge_eq hact).trans ?_
    cases h : s.haveLast <;> simp [State.actHunt, State.repeatCode, hshift, packRes_eq, Spec.resNumber, h, hph]
  · have hskip : (s.shiftWindow t).actHunt b = (s.shiftWindow t).setRes resNeedMoreData := by
      cases b with
      | sync => exact absurd rfl hs
      | repeatMarker => exact absurd rfl hr
      | _ => rfl
    refine (takeEdge_eq (hact.trans hskip)).trans ?_
    simp [State.setRes, hshift, hph, resNeedMoreData_eq]

/-- Settles O33: the boundary edge acts on its Sync as in HUNT, after a shift that keeps `HC`. -/
theorem inFrameSyncRestarts : Obligations.InFrameSyncRestarts := by
  unfold Obligations.InFrameSyncRestarts
  intro s t hp ht hst hanchored hph hband
  have hshift := shiftWindow_of_full (t := t) ((measures_frame hst).mpr hph) (hanchored hst)
  have hu := takeEdge_eq (afterEdge_boundary (b := .sync) hp hst hph hband)
  refine ⟨s.takeEdge t, execEdge_legal ht, hu.trans ?_⟩
  simp [State.actFrame, State.startFrame, hshift, packRes_eq, Spec.resNumber, hst]

/-- Settles O34: either bad band aborts with its own reason after a shift that keeps `HC`, so the window ends in `t` and
begins at the edge after the anchor. -/
theorem badIntervalDesyncs : Obligations.BadIntervalDesyncs := by
  unfold Obligations.BadIntervalDesyncs
  intro s t hp ht hst hanchored hph hband
  have hfull := hanchored hst
  have hshift := shiftWindow_of_full (t := t) ((measures_frame hst).mpr hph) hfull
  obtain ⟨q, hact, hres⟩ : ∃ q, s.afterEdge t = (s.shiftWindow t).desync q ∧
      packRes .desync q 0#2 false = if Spec.bandFromAnchor s t = 2 then 0x14#8 else 0x0C#8 := by
    obtain h | h := hband <;> rw [h]
    · exact ⟨.invalidInterval, afterEdge_boundary (b := .invalid) hp hst hph h, rfl⟩
    · exact ⟨.repeatInFrame, afterEdge_boundary (b := .repeatMarker) hp hst hph h, rfl⟩
  have hhc : (s.takeEdge t).hc = s.shiftedHc := congrArg State.hc hact
  refine ⟨s.takeEdge t, execEdge_legal ht, (takeEdge_eq hact).trans ?_, ?_, ?_, ?_⟩
  · simp [State.desync, hshift, hres]
  · rw [hhc, shiftedHc_of_full hfull, hfull]
  · rw [entry?_takeEdge hhc, if_pos]
    have := s.cfg.stride.toNat_cases
    omega
  · exact (takeEdge_window s t).1.trans (shiftedW0_eq s t)

/-- Settles O35: after the DESYNC the window is full and begins at that edge (O34), so the next EDGE is a candidate in
HUNT, and its Sync starts a frame (O31). -/
theorem syncAfterDesyncIsFound : Obligations.SyncAfterDesyncIsFound := by
  unfold Obligations.SyncAfterDesyncIsFound
  intro s t t' hp ht ht' hst hanchored hph hband hsync
  obtain ⟨u, hu, heq, hhc, -, hw0⟩ := badIntervalDesyncs s t hp ht hst hanchored hph hband
  have hcfg : u.cfg = s.cfg := by rw [heq]
  have hhunt : u.st = .hunt := by rw [heq]
  have hidle : u.HuntIdle := by
    rw [heq]
    exact fun _ => ⟨rfl, rfl⟩
  rw [← hcfg] at hp ht' hhc
  obtain ⟨v, hv, hfound, -⟩ := huntCandidateActs u t' hp ht' hhunt hidle hhc
  refine ⟨u, v, hu, hv, ?_⟩
  rw [hfound (by rw [Spec.bandFromAnchor, hcfg, hw0, hsync]), heq]
  exact ⟨rfl, rfl, rfl, rfl, rfl⟩

/-- `FR` with the bit `b` stored at `K`, bit by bit (40_frame_assembler.md R73). -/
theorem getLsbD_withBit (s : State) (b : Bool) {j : Nat} (hj : j < 32) :
    (s.withBit b).getLsbD j = if j = s.k.toNat then b else s.fr.getLsbD j := by
  obtain hlt | rfl | hgt := Nat.lt_trichotomy j s.k.toNat
  · simp [State.withBit, hj, hlt, hlt.ne]
  · cases b <;> simp [State.withBit, hj]
  · have h : j - s.k.toNat ≠ 0 := by omega
    simp [State.withBit, hj, hgt.ne', h]

theorem toNat_k_succ {k : BitVec 5} (h : k ≠ 31#5) : (k + 1#5).toNat = k.toNat + 1 := by
  have hne : k.toNat ≠ 31 := fun h31 => h (BitVec.eq_of_toNat_eq h31)
  have hlt : k.toNat + (1#5).toNat < 2 ^ 5 := show k.toNat + 1 < 32 by omega
  exact BitVec.toNat_add_of_lt hlt

/-- Settles O32: the accepted bit is stored at `K`, whether it is kept or completes the frame. -/
theorem boundaryEdgeStoresBit : Obligations.BoundaryEdgeStoresBit := by
  unfold Obligations.BoundaryEdgeStoresBit
  intro s t hp ht hst hph hband
  obtain ⟨b, hb⟩ : ∃ b : Bool, Spec.bandFromAnchor s t = if b then 4 else 3 :=
    hband.elim (fun h => ⟨false, h⟩) (fun h => ⟨true, h⟩)
  have hbit : decide (Spec.bandFromAnchor s t = 4) = b := by cases b <;> simp [hb]
  have hact : s.afterEdge t = (s.shiftWindow t).acceptBit b := afterEdge_bit hp hst hph hb
  have hlast : s.k.toNat = 31 ↔ s.k = 31#5 := BitVec.toNat_inj (y := 31#5)
  refine ⟨s.takeEdge t, execEdge_legal ht, ?_⟩
  rw [State.takeEdge, hbit, hlast, hact]
  by_cases hk : s.k = 31#5
  · rw [acceptBit_of_last (s := s.shiftWindow t) b hk]
    obtain ⟨hfr, -, -, -, -, hkind⟩ := completeFrame_ends (s.shiftWindow t) (s.withBit b)
    refine ⟨fun j hj => ?_, fun hlt => absurd (hlast.mpr hk) hlt.ne, fun _ => hkind⟩
    exact (congrArg (·.getLsbD j) hfr).trans (getLsbD_withBit s b hj)
  · rw [acceptBit_of_ne (s := s.shiftWindow t) b hk]
    have hph0 : s.nextPhase = 0#1 := nextPhase_of_measures ((measures_frame hst).mpr hph)
    exact ⟨fun j hj => getLsbD_withBit s b hj,
      fun _ => ⟨toNat_k_succ hk, resNeedMoreData_eq, hst, hph0, rfl, rfl, rfl, rfl, rfl, rfl, rfl⟩,
      fun h => absurd h hk⟩

/-- The bits of `FR` from `K` up are 0, and storing one at `K` moves that one place up (42_readout_and_test.md R95). -/
theorem withBit_lt {s : State} (h : s.fr.toNat < 2 ^ s.k.toNat) (b : Bool) :
    (s.withBit b).toNat < 2 ^ (s.k.toNat + 1) := by
  apply Nat.lt_pow_two_of_testBit
  intro j hj
  rw [BitVec.testBit_toNat]
  by_cases hj32 : j < 32
  · rw [getLsbD_withBit s b hj32, if_neg (by omega), ← BitVec.testBit_toNat]
    exact Nat.testBit_lt_two_pow (h.trans_le (Nat.pow_le_pow_right (by omega) (by omega)))
  · exact BitVec.getLsbD_of_ge _ _ (by omega)

/-- A legal EDGE keeps the bits of `FR` from `K` up at 0, however it ends. -/
theorem State.EdgeEnds.frameBelowK {s u : State} {t : Timestamp} (h : s.EdgeEnds t u) (hs : s.FrameBelowK) :
    u.FrameBelowK := by
  cases h with
  | nothing => exact hs
  | sync => exact fun _ => by simp
  | repeatCode => exact hs
  | keep b hst h hk =>
    intro _
    have hlt := withBit_lt (hs hst) b
    rw [← toNat_k_succ hk] at hlt
    exact hlt
  | publish => exact nofun
  | reject => exact nofun
  | desync => exact nofun

/-- Every command keeps the bits of `FR` from `K` up at 0. -/
theorem exec_keeps_frameBelowK {i : Instr} {s t : State} (hs : s.FrameBelowK) (h : exec i s = .next t) :
    t.FrameBelowK := by
  obtain ⟨e, -, -, he⟩ | ⟨-, he⟩ | ⟨-, he⟩ | ⟨-, -, -, r, he⟩ := exec_cases i s <;>
    obtain rfl := Host.Outcome.next.inj (he.symm.trans h)
  · exact (afterEdge_ends s e).frameBelowK hs
  · exact nofun
  · exact hs
  · exact hs

/-- Settles O48: of all a step can do only an EDGE writes `FR` and stays in FRAME. -/
theorem stepKeepsFrameBelowK : Obligations.StepKeepsFrameBelowK := by
  unfold Obligations.StepKeepsFrameBelowK
  intro s t hs h
  obtain ⟨-, he⟩ | ⟨-, he⟩ | ⟨w, i, -, -, he⟩ | ⟨w, e, -, -, he⟩ := step_cases s
  case inr.inr.inl => exact exec_keeps_frameBelowK (s := s.take) hs (he.symm.trans h)
  all_goals obtain rfl := Host.Outcome.next.inj (he.symm.trans h)
  · exact hs
  · exact nofun
  · exact hs

/-! ### A driver that issues EDGE commands -/

/-! What follows says of each part of an EDGE that it reads and writes nothing of what the driver presents later. -/

theorem completeFrame_issueAll (s : State) (is : List Instr) (f : Frame) :
    (s.issueAll is).completeFrame f = (s.completeFrame f).issueAll is := by
  by_cases hm : (decodeFrame f).mask = 0#2 <;> simp only [State.completeFrame, hm, if_true, if_false] <;> rfl

theorem acceptBit_issueAll (s : State) (is : List Instr) (b : Bool) :
    (s.issueAll is).acceptBit b = (s.acceptBit b).issueAll is := by
  by_cases hk : s.k = 31#5
  · rw [acceptBit_of_last b hk, acceptBit_of_last (s := s.issueAll is) b hk]
    exact completeFrame_issueAll s is (s.withBit b)
  · rw [acceptBit_of_ne b hk, acceptBit_of_ne (s := s.issueAll is) b hk]
    rfl

theorem act_issueAll (s : State) (is : List Instr) (b : Band) : (s.issueAll is).act b = (s.act b).issueAll is := by
  cases hst : s.st with
  | hunt =>
    rw [act_hunt hst, act_hunt (s := s.issueAll is) hst]
    cases b <;> rfl
  | frame =>
    rw [act_frame hst, act_frame (s := s.issueAll is) hst]
    cases b with
    | bit0 => exact acceptBit_issueAll s is false
    | bit1 => exact acceptBit_issueAll s is true
    | _ => rfl

theorem afterEdge_issueAll (s : State) (is : List Instr) (t : Timestamp) :
    (s.issueAll is).afterEdge t = (s.afterEdge t).issueAll is := by
  have hmeasured : (s.issueAll is).measured t = s.measured t := rfl
  rw [State.afterEdge, State.afterEdge, hmeasured]
  cases s.measured t with
  | none => rfl
  | some iv => exact act_issueAll (s.shiftWindow t) is _

/-- An EDGE reads and writes nothing of what the driver presents after it. -/
theorem takeEdge_issueAll (s : State) (is : List Instr) (t : Timestamp) :
    (s.issueAll is).takeEdge t = (s.takeEdge t).issueAll is := by
  rw [State.takeEdge, afterEdge_issueAll]
  rfl

/-- The state after legal EDGE commands, one after the other. -/
def State.feed (s : State) (ts : List Timestamp) : State := ts.foldl State.takeEdge s

@[simp] theorem feed_nil (s : State) : s.feed [] = s := rfl

@[simp] theorem feed_append_singleton (s : State) (ts : List Timestamp) (t : Timestamp) :
    s.feed (ts ++ [t]) = (s.feed ts).takeEdge t := by simp [State.feed]

@[simp] theorem takeEdge_cfg (s : State) (t : Timestamp) : (s.takeEdge t).cfg = s.cfg := afterEdge_cfg s t

@[simp] theorem feed_cfg (s : State) (ts : List Timestamp) : (s.feed ts).cfg = s.cfg := by
  induction ts using List.reverseRecOn with
  | nil => rfl
  | append_singleton ts t ih => rw [feed_append_singleton, takeEdge_cfg, ih]

/-- The run of a driver that issues legal EDGE commands ends in the state they lead to. -/
theorem run_edges (ts : List Timestamp) : ∀ s : State, (∀ t ∈ ts, t.toNat < s.cfg.m) →
    Host.Core.run core ts.length (s.issueAll (ts.map Instr.edge)) = .next (s.feed ts) := by
  induction ts with
  | nil => exact fun s _ => rfl
  | cons t ts ih =>
    intro s hlegal
    obtain ⟨ht, hts⟩ := List.forall_mem_cons.mp hlegal
    have hstep : step (s.issueAll ((t :: ts).map Instr.edge)) =
        .next ((s.takeEdge t).issueAll (ts.map Instr.edge)) := by
      rw [List.map_cons, step_issueAll_cons, ← takeEdge_issueAll]
      exact execEdge_legal (s := s.issueAll _) ht
    rw [List.length_cons, run_succ_of_step hstep]
    exact ih (s.takeEdge t) (by simpa using hts)

/-- `s` with the assembler's registers and the response of `u`. -/
def State.withAssembler (s u : State) : State :=
  { s with st := u.st, k := u.k, ph := u.ph, hc := u.hc, w0 := u.w0, w1 := u.w1, fr := u.fr, res := u.res,
           resp := u.resp }

/-- `u` differs from `s` in the assembler's registers and the response alone: the published pair, the counters,
`CMD_ERR`, the parameters and the pending inputs are the same. -/
def State.SameOutside (s u : State) : Prop := u = s.withAssembler u

theorem State.SameOutside.trans {s u v : State} (hu : s.SameOutside u) (hv : u.SameOutside v) : s.SameOutside v := by
  calc v = u.withAssembler v := hv
    _ = (s.withAssembler u).withAssembler v := by rw [← hu]
    _ = s.withAssembler v := rfl

theorem State.SameOutside.cfg {s u : State} (h : s.SameOutside u) : u.cfg = s.cfg := by
  rw [h]
  rfl

/-- The published pair and the counters are outside the assembler. -/
theorem State.SameOutside.record {s u : State} (h : s.SameOutside u) :
    u.lastAddr = s.lastAddr ∧ u.lastCmd = s.lastCmd ∧ u.haveLast = s.haveLast ∧ u.okCnt = s.okCnt ∧
      u.csumCnt = s.csumCnt ∧ u.desyncCnt = s.desyncCnt ∧ u.repeatCnt = s.repeatCnt := by
  rw [h]
  exact ⟨rfl, rfl, rfl, rfl, rfl, rfl, rfl⟩

/-! ### Filling the window -/

/-- The window after the EDGEs `ts` from an empty window in HUNT, while they do not yet fill it (40_frame_assembler.md
R70, R78). -/
structure State.Filling (s : State) (ts : List Timestamp) (u : State) : Prop where
  same : s.SameOutside u
  st : u.st = .hunt
  k : u.k = s.k
  fr : u.fr = s.fr
  ph : s.ph = 0#1 → u.ph = 0#1
  res : s.res = 0#8 → u.res = 0#8
  hc : u.hc.toNat = ts.length
  entry : ∀ j, u.entry? j =
    if j + ts.length < s.cfg.stride.toNat then none else ts[j + ts.length - s.cfg.stride.toNat]?

/-- The entries shown at the end of a list longer by one, one place before, are those shown at the end of the list. -/
theorem getElem?_shift_append {α : Type} (ts : List α) (t : α) (n j : Nat) :
    (if j + 1 = n then some t else if j + 1 + ts.length < n then none else ts[j + 1 + ts.length - n]?) =
      if j + (ts ++ [t]).length < n then none else (ts ++ [t])[j + (ts ++ [t]).length - n]? := by
  rw [List.length_append, List.length_singleton, show j + (ts.length + 1) = j + 1 + ts.length by omega]
  obtain h | h | h := Nat.lt_trichotomy (j + 1) n
  · rw [if_neg h.ne]
    split_ifs
    · rfl
    · rw [List.getElem?_append_left (by omega)]
  · rw [if_pos h, if_neg (by omega), h, Nat.add_sub_cancel_left, List.getElem?_concat_length]
  · rw [if_neg h.ne', if_neg (by omega), if_neg (by omega), List.getElem?_eq_none (by omega),
      List.getElem?_eq_none (by simp; omega)]

/-- One more EDGE that does not overfill the window. -/
theorem State.Filling.takeEdge {s u : State} {ts : List Timestamp} (h : s.Filling ts u)
    (hlt : ts.length < s.cfg.stride.toNat) (t : Timestamp) : s.Filling (ts ++ [t]) (u.takeEdge t) := by
  obtain ⟨hsame, hst, hk, hfr, -, -, hhc, hentry⟩ := h
  have hcfg := hsame.cfg
  have hnone : Spec.measures u = false := by
    rw [← Bool.not_eq_true, measures_hunt hst, hhc, hcfg]
    exact hlt.ne
  have hact := afterEdge_of_measures_false hnone t
  have hcount : (u.takeEdge t).hc = u.shiftedHc := congrArg State.hc hact
  have hentry' : ∀ j, (u.takeEdge t).entry? j = _ := entry?_takeEdge hcount
  rw [State.takeEdge, hact] at hcount hentry' ⊢
  refine ⟨hsame.trans rfl, hst, hk, hfr, fun _ => nextPhase_of_hunt hst, fun _ => resNeedMoreData_eq, ?_, ?_⟩
  · rw [hcount, shiftedHc_toNat, hhc, hcfg, List.length_append, List.length_singleton]
    exact Nat.min_eq_left hlt
  · intro j
    rw [hentry', hentry, hcfg]
    exact getElem?_shift_append ts t _ j

/-- From HUNT with an empty window the first EDGEs, up to `S`, fill the window. -/
theorem filling_feed {s : State} (hst : s.st = .hunt) (hhc : s.hc = 0#2) {ts : List Timestamp}
    (hlen : ts.length ≤ s.cfg.stride.toNat) : s.Filling ts (s.feed ts) := by
  induction ts using List.reverseRecOn with
  | nil =>
    refine ⟨rfl, hst, rfl, rfl, id, id, by simp [hhc], fun j => ?_⟩
    simp [entry?_of_hc_zero hhc]
  | append_singleton ts t ih =>
    have hlt : ts.length < s.cfg.stride.toNat := by simpa using hlen
    rw [feed_append_singleton]
    exact (ih hlt.le).takeEdge hlt t

/-- From HUNT with an empty window and nothing else to clear, `S` legal EDGEs only fill the window. -/
theorem run_filling {s : State} (hst : s.st = .hunt) (hhc : s.hc = 0#2) (hph : s.ph = 0#1) (hres : s.res = 0#8)
    {ts : List Timestamp} (hlen : ts.length = s.cfg.stride.toNat) (hlegal : ∀ t ∈ ts, t.toNat < s.cfg.m) :
    ∃ u : State, Host.Core.run core ts.length (s.issueAll (ts.map Instr.edge)) = .next u ∧
      u = { s with hc := u.hc, w0 := u.w0, w1 := u.w1, resp := u.resp } ∧ u.hc.toNat = s.cfg.stride.toNat ∧
      ∀ j, u.entry? j = ts[j]? := by
  have hfill := filling_feed hst hhc hlen.le
  have hsame : s.feed ts = s.withAssembler (s.feed ts) := hfill.same
  refine ⟨s.feed ts, run_edges ts s hlegal, hsame.trans ?_, hfill.hc.trans hlen, fun j => ?_⟩
  · simp [State.withAssembler, hfill.st, hfill.k, hfill.fr, hfill.ph hph, hfill.res hres, hst, hph, hres]
  · rw [hfill.entry, hlen, if_neg (by omega), Nat.add_sub_cancel]

/-- Settles O26: CLEAR leaves HUNT with an empty window and `PH` and `RES` at 0, which the next EDGEs only fill. -/
theorem clearResynchronises : Obligations.ClearResynchronises := by
  unfold Obligations.ClearResynchronises
  refine ⟨fun w hopc hrsv => decode_of_row hopc hrsv rfl, fun s => ⟨rfl, fun t ht => ?_⟩⟩
  obtain rfl := Host.Outcome.next.inj ht
  exact ⟨rfl, fun ts hlen hlegal => run_filling rfl rfl rfl rfl hlen hlegal⟩

/-! ### A well-formed frame -/

/-- The state after the first `n` edges of a stream. -/
def State.fed (s : State) (e : Nat → Timestamp) (n : Nat) : State := s.feed ((List.range n).map e)

theorem fed_succ (s : State) (e : Nat → Timestamp) (n : Nat) : s.fed e (n + 1) = (s.fed e n).takeEdge (e n) := by
  simp [State.fed, List.range_succ]

@[simp] theorem fed_cfg (s : State) (e : Nat → Timestamp) (n : Nat) : (s.fed e n).cfg = s.cfg := feed_cfg s _

/-- The window always begins at the edge `S` edges back (40_frame_assembler.md R69, R70). -/
theorem fed_anchor (s : State) (e : Nat → Timestamp) (n : Nat) : (s.fed e (n + s.cfg.stride.toNat)).w0 = e n := by
  obtain ⟨hs, hn⟩ | ⟨hs, hn⟩ := s.cfg.stride.toNat_cases <;> rw [hn]
  · rw [fed_succ, (takeEdge_window _ _).1]
    simp [State.shiftedW0, hs]
  · rw [fed_succ, (takeEdge_window _ _).1]
    simp [State.shiftedW0, hs, fed_succ, (takeEdge_window _ _).2, State.shiftedW1]

/-- The interval that the next edge of a stream ends began `S` edges before it. -/
theorem bandFromAnchor_fed (s : State) (e : Nat → Timestamp) (n : Nat) (t : Timestamp) :
    Spec.bandFromAnchor (s.fed e (n + s.cfg.stride.toNat)) t = Spec.bandNumber s.cfg (Spec.interval s.cfg (e n) t) := by
  rw [Spec.bandFromAnchor, fed_anchor, fed_cfg]

/-- FRAME with the first `j` bits of `f` received and `p` edges since the last bit boundary. -/
structure State.Receiving (s : State) (f : Frame) (j p : Nat) (u : State) : Prop where
  same : s.SameOutside u
  st : u.st = .frame
  k : u.k.toNat = j
  ph : u.ph.toNat = p
  bits : ∀ i, i < 32 → u.fr.getLsbD i = (decide (i < j) && f.getLsbD i)

section WellFormed

variable {s : State} {f : Frame} {e : Nat → Timestamp}

/-- The run over the first edges of a well-formed frame. -/
theorem run_wellFormed (hf : Spec.WellFormedFrame s.cfg f e) {n : Nat} (hn : n ≤ 33 * s.cfg.stride.toNat + 1) :
    Host.Core.run core n (s.issueAll (Spec.edges n e)) = .next (s.fed e n) := by
  obtain ⟨hlegal, -, -⟩ := hf
  have hrun := run_edges ((List.range n).map e) s (by
    intro t ht
    obtain ⟨i, hi, rfl⟩ := List.mem_map.mp ht
    have := List.mem_range.mp hi
    exact hlegal i (by omega))
  rwa [List.map_map, List.length_map, List.length_range] at hrun

/-- The leader starts the frame (40_frame_assembler.md R71, R80). -/
theorem fed_leader (hp : s.cfg.wf) (hst : s.st = .hunt) (hhc : s.hc = 0#2) (hf : Spec.WellFormedFrame s.cfg f e) :
    s.Receiving f 0 0 (s.fed e (s.cfg.stride.toNat + 1)) ∧ (s.fed e (s.cfg.stride.toNat + 1)).res = 1#8 := by
  obtain ⟨-, hsync, -⟩ := hf
  have hfill : s.Filling ((List.range s.cfg.stride.toNat).map e) (s.fed e s.cfg.stride.toNat) :=
    filling_feed hst hhc (by simp)
  have hfull : (s.fed e s.cfg.stride.toNat).hc.toNat = s.cfg.stride.toNat := by simpa using hfill.hc
  have hband := bandFromAnchor_fed s e 0 (e s.cfg.stride.toNat)
  rw [Nat.zero_add, hsync] at hband
  have hact : (s.fed e s.cfg.stride.toNat).afterEdge (e s.cfg.stride.toNat) = _ :=
    afterEdge_candidate (b := .sync) (by simpa using hp) hfill.st (by simpa using hfull) hband
  rw [fed_succ, State.takeEdge, hact]
  refine ⟨⟨hfill.same.trans rfl, rfl, rfl, rfl, fun i _ => ?_⟩, ?_⟩
  · simp [State.actHunt]
  · simp [State.actHunt, packRes_eq, Spec.resNumber]

/-- The edges inside a bit interval only move the phase on (40_frame_assembler.md R72). -/
theorem receiving_inside {j n : Nat} (h : s.Receiving f j 0 (s.fed e n)) :
    s.Receiving f j (s.cfg.stride.toNat - 1) (s.fed e (n + (s.cfg.stride.toNat - 1))) := by
  obtain ⟨-, hn⟩ | ⟨-, hn⟩ := s.cfg.stride.toNat_cases <;> rw [hn]
  · exact h
  · rw [fed_succ]
    obtain ⟨hsame, hst, hk, hph, hbits⟩ := h
    have hnone : Spec.measures (s.fed e n) = false := by
      rw [← Bool.not_eq_true, measures_frame hst, hph, fed_cfg, hn]
      decide
    have hphase : (s.fed e n).nextPhase = 1#1 := by
      rw [nextPhase_eq, if_pos ⟨hst, hnone⟩, show (s.fed e n).ph = 0#1 from BitVec.eq_of_toNat_eq hph]
      rfl
    rw [State.takeEdge, afterEdge_of_measures_false hnone]
    exact ⟨hsame.trans rfl, hst, hk, congrArg BitVec.toNat hphase, hbits⟩

/-- The bit stored next makes one more bit of the frame. -/
theorem State.Receiving.withBit {j p : Nat} {u : State} (h : s.Receiving f j p u) {i : Nat} (hi : i < 32) :
    (u.withBit (f.getLsbD j)).getLsbD i = (decide (i < j + 1) && f.getLsbD i) := by
  rw [getLsbD_withBit u _ hi, h.k, h.bits i hi]
  obtain hlt | rfl | hgt := Nat.lt_trichotomy i j
  · simp [hlt, hlt.ne, Nat.lt_succ_of_lt hlt]
  · simp
  · have : ¬ i < j + 1 := by omega
    simp [hgt.ne', this, hgt.not_gt]

section Boundary

variable {j : Nat} {u : State} {t : Timestamp} (hp : s.cfg.wf) (h : s.Receiving f j (s.cfg.stride.toNat - 1) u)
  (hband : Spec.bandFromAnchor u t = if f.getLsbD j then 4 else 3)
include hp h hband

/-- A boundary edge accepts the next bit of the frame. -/
theorem afterEdge_of_receiving : u.afterEdge t = (u.shiftWindow t).acceptBit (f.getLsbD j) := by
  obtain ⟨hsame, hst, -, hph, -⟩ := h
  have hcfg := hsame.cfg
  rw [← hcfg] at hp hph
  exact afterEdge_bit hp hst hph hband

/-- A boundary edge before the last one receives the next bit. -/
theorem receiving_takeEdge (hj : j < 31) : s.Receiving f (j + 1) 0 (u.takeEdge t) := by
  have hph : u.ph.toNat = u.cfg.stride.toNat - 1 := by rw [h.same.cfg, h.ph]
  have hphase : u.nextPhase = 0#1 := nextPhase_of_measures ((measures_frame h.st).mpr hph)
  have hk : u.k ≠ 31#5 := fun h31 => hj.ne (h.k.symm.trans (congrArg BitVec.toNat h31))
  rw [State.takeEdge, afterEdge_of_receiving hp h hband, acceptBit_of_ne (s := u.shiftWindow t) _ hk]
  exact ⟨h.same.trans rfl, h.st, (toNat_k_succ hk).trans (congrArg (· + 1) h.k), congrArg BitVec.toNat hphase,
    fun i hi => h.withBit hi⟩

/-- The last boundary edge completes the frame with all its bits (40_frame_assembler.md R76). -/
theorem afterEdge_of_receiving_last (hj : j = 31) : u.afterEdge t = (u.shiftWindow t).completeFrame f := by
  subst hj
  have hframe : u.withBit (f.getLsbD 31) = f := by
    apply BitVec.eq_of_getLsbD_eq
    intro i hi
    rw [h.withBit hi, decide_eq_true hi, Bool.true_and]
  rw [afterEdge_of_receiving hp h hband, acceptBit_of_last (s := u.shiftWindow t) _ (BitVec.eq_of_toNat_eq h.k)]
  exact congrArg _ hframe

end Boundary

/-- The band of bit `j` of a well-formed frame (40_frame_assembler.md R80). -/
theorem band_wellFormed (hf : Spec.WellFormedFrame s.cfg f e) {j : Nat} (hj : j < 32) :
    Spec.bandFromAnchor (s.fed e (s.cfg.stride.toNat * (j + 2))) (e (s.cfg.stride.toNat * (j + 2))) =
      if f.getLsbD j then 4 else 3 := by
  obtain ⟨-, -, hbits⟩ := hf
  exact (bandFromAnchor_fed s e (s.cfg.stride.toNat * (j + 1)) _).trans (hbits j hj)

/-- The edge that ends bit `j` meets the bits before it. -/
theorem receiving_boundary {j : Nat} (h : s.Receiving f j 0 (s.fed e (s.cfg.stride.toNat * (j + 1) + 1))) :
    s.Receiving f j (s.cfg.stride.toNat - 1) (s.fed e (s.cfg.stride.toNat * (j + 2))) := by
  have hindex : s.cfg.stride.toNat * (j + 1) + 1 + (s.cfg.stride.toNat - 1) = s.cfg.stride.toNat * (j + 2) := by
    have := s.cfg.stride.toNat_cases
    rw [Nat.mul_succ _ (j + 1)]
    omega
  rw [← hindex]
  exact receiving_inside h

section Stream

variable (hp : s.cfg.wf) (hst : s.st = .hunt) (hhc : s.hc = 0#2) (hf : Spec.WellFormedFrame s.cfg f e)
include hp hst hhc hf

/-- After the leader and `j` bit intervals the first `j` bits of the frame are received. -/
theorem receiving_fed {j : Nat} (hj : j ≤ 31) : s.Receiving f j 0 (s.fed e (s.cfg.stride.toNat * (j + 1) + 1)) := by
  induction j with
  | zero =>
    obtain ⟨hleader, -⟩ := fed_leader hp hst hhc hf
    simpa using hleader
  | succ j ih =>
    rw [fed_succ]
    exact receiving_takeEdge hp (receiving_boundary (ih (by omega))) (band_wellFormed hf (by omega)) (by omega)

/-- The last edge of a well-formed frame completes it, with the pair and the counters as they were before the frame. -/
theorem fed_last : ∃ u r, s.SameOutside u ∧
    s.fed e (33 * s.cfg.stride.toNat + 1) = (u.completeFrame f).respond r := by
  have hreceiving := receiving_boundary (receiving_fed hp hst hhc hf le_rfl)
  have hlast := afterEdge_of_receiving_last hp hreceiving (band_wellFormed hf (by omega)) rfl
  have hend := fed_succ s e (s.cfg.stride.toNat * (31 + 2))
  rw [State.takeEdge, hlast] at hend
  rw [Nat.mul_comm]
  refine ⟨_, _, ?_, hend⟩
  exact hreceiving.same.trans rfl

end Stream

end WellFormed

/-- Settles O50: the leader starts the frame at edge `S`, and the last boundary edge completes it. -/
theorem wellFormedFrameIsDecoded : Obligations.WellFormedFrameIsDecoded := by
  unfold Obligations.WellFormedFrameIsDecoded
  intro s f e hp hst hhc hf
  constructor
  · obtain ⟨hreceiving, hres⟩ := fed_leader hp hst hhc hf
    exact ⟨_, run_wellFormed hf (by omega), hreceiving.st, BitVec.eq_of_toNat_eq hreceiving.k, hres⟩
  · obtain ⟨u, r, -, hlast⟩ := fed_last hp hst hhc hf
    refine ⟨_, run_wellFormed hf le_rfl, ?_⟩
    rw [hlast]
    exact completeFrame_ends u f

/-- The bytes of a word put together from four bytes. -/
theorem bytes_of_append (x y z w : Byte) :
    (x ++ y ++ z ++ w).extractLsb' 0 8 = w ∧ (x ++ y ++ z ++ w).extractLsb' 8 8 = z ∧
      (x ++ y ++ z ++ w).extractLsb' 16 8 = y ∧ (x ++ y ++ z ++ w).extractLsb' 24 8 = x := by
  refine ⟨?_, ?_, ?_, ?_⟩ <;> apply BitVec.eq_of_toNat_eq <;>
    simp only [BitVec.extractLsb'_toNat, Nat.shiftRight_eq_div_pow, toNat_append_eq_add] <;> omega

/-- The validator reads a packet's pair back, and both checks pass (41_packet_validator.md R82 to R84). -/
theorem decodeFrame_packet (a c : Byte) : decodeFrame (Spec.packet a c) = { addr := a, cmd := c, mask := 0#2 } := by
  obtain ⟨h0, h1, h2, h3⟩ := bytes_of_append (~~~c) c (~~~a) a
  have hxor : ∀ b : Byte, b ^^^ ~~~b = 0xFF#8 := by
    intro b
    rw [← BitVec.xor_allOnes, ← BitVec.xor_assoc, BitVec.xor_self, BitVec.zero_xor]
    rfl
  simp only [decodeFrame, Spec.packet, h0, h1, h2, h3, hxor]
  rfl

/-- Settles O51: the frame completed at the last edge is the packet of the pair, which the validator reads back and the
EDGE publishes; nothing before it touched the pair or the counters. -/
theorem pairSurvivesTransmission : Obligations.PairSurvivesTransmission := by
  unfold Obligations.PairSurvivesTransmission
  intro s a c e hp hst hhc hf
  obtain ⟨u, r, hsame, hlast⟩ := fed_last hp hst hhc hf
  obtain ⟨-, -, -, hok, hcsum, hdesync, hrepeat⟩ := hsame.record
  refine ⟨_, run_wellFormed hf le_rfl, ?_⟩
  rw [hlast, ← hok, ← hcsum, ← hdesync, ← hrepeat]
  simp [State.completeFrame, decodeFrame_packet, packRes_eq, Spec.resNumber]

end Sys2Proof.Machine
end

section
/-! PROOFS. The packet validator (41_packet_validator.md): the answer of DECODE, the two complement checks, and the EDGE
that completes a frame, valid or not. -/

namespace Sys2Proof.Machine

/-! ### The answer of DECODE -/

/-- The response of DECODE is the number of its three fields (41_packet_validator.md R89). -/
theorem decodedWord_eq (d : Decoded) : d.word =
    BitVec.ofNat 32 (d.addr.toNat + 2 ^ 8 * d.cmd.toNat + 2 ^ 16 * d.mask.toNat) := by
  apply BitVec.eq_of_toNat_eq
  simp only [Decoded.word, BitVec.toNat_setWidth, BitVec.toNat_ofNat, toNat_append_eq_add]
  omega

/-- DECODE answers the validator's triple as a number and changes nothing (41_packet_validator.md R85, R89). -/
theorem exec_decode (s : State) (f : Frame) : exec (.decode f) s = .next (Spec.answer s
    ((decodeFrame f).addr.toNat + 2 ^ 8 * (decodeFrame f).cmd.toNat + 2 ^ 16 * (decodeFrame f).mask.toNat)) := by
  rw [Spec.answer, ← decodedWord_eq]
  rfl

/-- Settles O21: the operand is the word's whole `A` field, and the mask is the spec's number. -/
theorem decodeAnswersBytesAndMask : Obligations.DecodeAnswersBytesAndMask := by
  unfold Obligations.DecodeAnswersBytesAndMask
  refine ⟨fun w hopc hrsv => decode_of_row hopc hrsv rfl, fun s f => ?_⟩
  rw [exec_decode, maskNumber_eq]
  rfl

/-- Settles O23: the validator reads a packet's pair back with mask 0. -/
theorem decodeOfPacketReturnsPair : Obligations.DecodeOfPacketReturnsPair := by
  unfold Obligations.DecodeOfPacketReturnsPair
  intro s a c
  rw [exec_decode, decodeFrame_packet]
  rfl

/-! ### The two complement checks -/

/-- Bits 17 and 16 of the response of DECODE are the mask (41_packet_validator.md R89). -/
theorem decodedWord_mask (d : Decoded) : d.word.extractLsb' 16 2 = d.mask := by
  apply BitVec.eq_of_toNat_eq
  simp only [Decoded.word, BitVec.extractLsb'_toNat, Nat.shiftRight_eq_div_pow, BitVec.toNat_setWidth,
    toNat_append_eq_add]
  omega

/-- Bit `j` of the mask is bit `16 + j` of the response of DECODE. -/
theorem decodedWord_getLsbD (d : Decoded) {j : Nat} (hj : j < 2) : d.word.getLsbD (16 + j) = d.mask.getLsbD j := by
  simp [← decodedWord_mask, hj]

/-- Each mask bit is its own check (41_packet_validator.md R83, R84). -/
theorem decodeFrame_mask_bits (f : Frame) :
    (decodeFrame f).mask.getLsbD 0 = (f.extractLsb' 0 8 ^^^ f.extractLsb' 8 8 != 0xFF#8) ∧
      (decodeFrame f).mask.getLsbD 1 = (f.extractLsb' 16 8 ^^^ f.extractLsb' 24 8 != 0xFF#8) := by
  have bits : ∀ x y : Bool, (BitVec.ofBool x ++ BitVec.ofBool y).getLsbD 0 = y ∧
      (BitVec.ofBool x ++ BitVec.ofBool y).getLsbD 1 = x := by decide
  exact bits _ _

/-- Two bytes pass the check exactly when the second is the complement of the first (41_packet_validator.md R83). -/
theorem xor_eq_ff_iff (a b : Byte) : a ^^^ b = 0xFF#8 ↔ b = ~~~a := by
  rw [← BitVec.xor_right_inj a, ← BitVec.xor_assoc, BitVec.xor_self, BitVec.zero_xor, ← BitVec.xor_allOnes]
  rfl

/-- The mask is 0 exactly for the frames of the pairs (41_packet_validator.md R82 to R84). -/
theorem mask_eq_zero_iff_packet (f : Frame) : (decodeFrame f).mask = 0#2 ↔ ∃ a c : Byte, f = Spec.packet a c := by
  constructor
  · intro h
    exact ⟨_, _, eq_packet_of_mask_eq_zero h⟩
  · rintro ⟨a, c, rfl⟩
    rw [decodeFrame_packet]

/-- Settles O22: bits 16 and 17 of the response are the mask bits, each the result of its own XOR. -/
theorem checksPassIffComplements : Obligations.ChecksPassIffComplements := by
  unfold Obligations.ChecksPassIffComplements
  intro s f
  obtain ⟨hmask0, hmask1⟩ := decodeFrame_mask_bits f
  have haddr : (decodeFrame f).word.getLsbD 16 = false ↔ f.extractLsb' 0 8 ^^^ f.extractLsb' 8 8 = 0xFF#8 := by
    rw [decodedWord_getLsbD _ (j := 0) (by omega), hmask0, bne_eq_false_iff_eq]
  have hcmd : (decodeFrame f).word.getLsbD 17 = false ↔ f.extractLsb' 16 8 ^^^ f.extractLsb' 24 8 = 0xFF#8 := by
    rw [decodedWord_getLsbD _ (j := 1) (by omega), hmask1, bne_eq_false_iff_eq]
  refine ⟨(decodeFrame f).word, rfl, haddr, hcmd, ?_, ?_, ?_⟩
  · rw [haddr, xor_eq_ff_iff]
  · rw [hcmd, xor_eq_ff_iff]
  · rw [decodedWord_mask, mask_eq_zero_iff_packet]

/-! ### The EDGE that completes a frame -/

/-- The mask as a number is 0 exactly when the mask is. -/
theorem maskNumber_eq_zero_iff (f : Frame) : Spec.maskNumber f = 0 ↔ (decodeFrame f).mask = 0#2 := by
  rw [maskNumber_eq]
  exact BitVec.toNat_inj (y := 0#2)

/-- An EDGE that stores bit 31 completes the frame of the pseudocode (40_frame_assembler.md R73, R76). -/
theorem afterEdge_of_completes {s : State} {t : Timestamp} (hp : s.cfg.wf) (h : Spec.completes s t = true) :
    s.afterEdge t = (s.shiftWindow t).completeFrame (Spec.storedFrame s t) := by
  obtain ⟨hstores, hk⟩ : Spec.storesBit s t = true ∧ s.k = 31#5 := by simpa [Spec.completes] using h
  obtain ⟨hst, b, hb⟩ := (storesBit_iff hp).mp hstores
  calc s.afterEdge t = (s.shiftWindow t).act (bitBand b) := afterEdge_of_edgeBand hb
    _ = (s.shiftWindow t).actFrame (bitBand b) := act_frame (s := s.shiftWindow t) hst _
    _ = (s.shiftWindow t).acceptBit b := by cases b <;> rfl
    _ = (s.shiftWindow t).completeFrame (s.withBit b) := acceptBit_of_last (s := s.shiftWindow t) b hk
    _ = _ := by rw [storedFrame_eq hp hb]

/-- The EDGE that completes a valid frame writes its pair and empties the window (41_packet_validator.md R86). -/
theorem takeEdge_of_publishes {s : State} {t : Timestamp} (hp : s.cfg.wf) (h : Spec.publishes s t = true) :
    s.takeEdge t = { s with
      st := .hunt, k := 0#5, ph := 0#1, hc := 0#2, fr := Spec.storedFrame s t, res := 0x83#8,
      lastAddr := (Spec.storedFrame s t).extractLsb' 0 8, lastCmd := (Spec.storedFrame s t).extractLsb' 16 8,
      haveLast := true, okCnt := s.okCnt + 1#8, w0 := Spec.w0After s t, w1 := Spec.w1After s t,
      resp := (s.takeEdge t).resp } := by
  obtain ⟨hcompletes, hmask⟩ : Spec.completes s t = true ∧ (decodeFrame (Spec.storedFrame s t)).mask = 0#2 := by
    simpa [Spec.publishes, maskNumber_eq_zero_iff] using h
  refine (takeEdge_eq (afterEdge_of_completes hp hcompletes)).trans ?_
  simp [State.completeFrame, hmask, State.endFrame, State.publish, shiftWindow_eq, packRes_eq, Spec.resNumber]

/-- The EDGE that completes an invalid frame counts it, puts its mask in `RES.CSUM` and empties the window
(41_packet_validator.md R87). -/
theorem takeEdge_of_rejects {s : State} {t : Timestamp} (hp : s.cfg.wf) (h : Spec.rejects s t = true) :
    s.takeEdge t = { s with
      st := .hunt, k := 0#5, ph := 0#1, hc := 0#2, fr := Spec.storedFrame s t,
      res := packRes .frame .none (decodeFrame (Spec.storedFrame s t)).mask false,
      csumCnt := s.csumCnt + 1#8, w0 := Spec.w0After s t, w1 := Spec.w1After s t,
      resp := (s.takeEdge t).resp } := by
  obtain ⟨hcompletes, hmask⟩ : Spec.completes s t = true ∧ (decodeFrame (Spec.storedFrame s t)).mask ≠ 0#2 := by
    simpa [Spec.rejects, maskNumber_eq_zero_iff] using h
  refine (takeEdge_eq (afterEdge_of_completes hp hcompletes)).trans ?_
  simp [State.completeFrame, hmask, State.endFrame, State.reject, shiftWindow_eq]

/-- The byte getters answer the published pair's bytes as numbers (42_readout_and_test.md R91, R92). -/
theorem exec_byteGetters (s : State) : exec .getAddress s = .next (Spec.answer s s.lastAddr.toNat) ∧
    exec .getCommand s = .next (Spec.answer s s.lastCmd.toNat) := by
  rw [Spec.answer, BitVec.ofNat_toNat, Spec.answer, BitVec.ofNat_toNat]
  exact ⟨rfl, rfl⟩

/-- Settles O36: the EDGE writes the pair of its frame, and the port and the getters read the registers just written. -/
theorem validFramePublishes : Obligations.ValidFramePublishes := by
  unfold Obligations.ValidFramePublishes
  intro s t hp ht hpub
  have hu := takeEdge_of_publishes hp hpub
  refine ⟨s.takeEdge t, execEdge_legal ht, ?_⟩
  obtain ⟨haddr, hcmd⟩ := exec_byteGetters (s.takeEdge t)
  have hpair := getPairAnswersPairWord (s.takeEdge t)
  rw [hu] at haddr hcmd hpair ⊢
  exact ⟨rfl, rfl, rfl, haddr, hcmd, hpair⟩

/-- Settles O37: the EDGE keeps the pair and counts the frame, and `RES` is FRAME with the mask and nothing else. -/
theorem invalidFrameIsDiscarded : Obligations.InvalidFrameIsDiscarded := by
  unfold Obligations.InvalidFrameIsDiscarded
  intro s t hp ht hrejects
  have hu := takeEdge_of_rejects hp hrejects
  refine ⟨s.takeEdge t, execEdge_legal ht, ?_⟩
  rw [hu, maskNumber_eq]
  simp

end Sys2Proof.Machine
end

section
/-! PROOFS. NOP, the readout commands and the test commands (42_readout_and_test.md). -/

namespace Sys2Proof.Machine

/-! ### NOP and the getters -/

/-- Settles O11: opcode 0 is NOP's row, a nonzero `RSV` is a ground of its own, and the response is the constant 0. -/
theorem nopDoesNothing : Obligations.NopDoesNothing := by
  unfold Obligations.NopDoesNothing
  exact ⟨fun w hopc hrsv => decode_of_row hopc hrsv rfl, fun p w _ hrsv => decodeLegal_eq_none_iff.mpr (.inl hrsv),
    fun s => rfl⟩

/-- Settles O12: each getter's row, and the byte it answers as a number. -/
theorem gettersAnswerPublishedBytes : Obligations.GettersAnswerPublishedBytes := by
  unfold Obligations.GettersAnswerPublishedBytes
  exact ⟨fun w hopc hrsv => decode_of_row hopc hrsv rfl, fun w hopc hrsv => decode_of_row hopc hrsv rfl,
    exec_byteGetters⟩

/-- Settles O15: `FR` has the response's width, so its number is the response. -/
theorem getFrameAnswersFr : Obligations.GetFrameAnswersFr := by
  unfold Obligations.GetFrameAnswersFr
  refine ⟨fun w hopc hrsv => decode_of_row hopc hrsv rfl, fun s => ?_⟩
  rw [Spec.answer, BitVec.ofNat_toNat, BitVec.setWidth_eq]
  rfl

/-- Settles O25: before the first valid frame the pair is the sentinel (10_state.md R37), and the getters answer its
bytes. -/
theorem gettersAnswerZeroBeforeFirstPublish : Obligations.GettersAnswerZeroBeforeFirstPublish := by
  unfold Obligations.GettersAnswerZeroBeforeFirstPublish
  intro s hs hnever
  obtain ⟨-, -, -, -, -, hsentinel, -⟩ := hs
  obtain ⟨haddr, hcmd⟩ := hsentinel hnever
  have hget := exec_byteGetters s
  rw [haddr, hcmd] at hget
  exact hget

/-! ### UNWRAP and CLASSIFY -/

/-- UNWRAP of two legal operands answers the spec's interval and changes nothing (42_readout_and_test.md R97). -/
theorem exec_unwrap {s : State} {e l : Timestamp} (hp : s.cfg.wf) (he : e.toNat < s.cfg.m) (hl : l.toNat < s.cfg.m) :
    exec (.unwrap e l) s = .next (Spec.answer s (Spec.interval s.cfg e l)) := by
  rw [Spec.answer, Spec.interval, ← unwrapInterval_toNat hp, BitVec.ofNat_toNat]
  exact execUnwrap_legal he hl

/-- Settles O17: the operands stand in `A[15:0]` and `B`, and the value check separates the interval from the
illegal-command path. -/
theorem unwrapAnswersInterval : Obligations.UnwrapAnswersInterval := by
  unfold Obligations.UnwrapAnswersInterval
  refine ⟨fun w hopc hrsv => decode_of_row hopc hrsv ?_, fun s e l hp => ⟨exec_unwrap hp, execUnwrap_illegal⟩⟩
  exact congrArg (fun t => some (Instr.unwrap t (bField w))) (aLow_eq w)

/-- Settles O19: the operand stands in `A[15:0]`, and the model's band has the code of the first matching line. -/
theorem classifyAnswersBandCode : Obligations.ClassifyAnswersBandCode := by
  unfold Obligations.ClassifyAnswersBandCode
  refine ⟨fun w hopc hrsv => decode_of_row hopc hrsv ?_, exec_classify⟩
  exact congrArg (fun iv => some (Instr.classify iv)) (aLow_eq w)

end Sys2Proof.Machine
end

section
/-! PROOFS. Exceptional behaviour (60_exceptions.md): the illegal-command path, idle steps, and what a step can meet. -/

namespace Sys2Proof.Machine

/-! ### The illegal-command path -/

/-- The step of an illegal word takes the illegal-command path, whatever makes the word illegal (60_exceptions.md R103). -/
theorem step_of_illegalWord {s : State} {w : CmdWord} {rest : List PortSlot}
    (hin : s.inputs = { reset := false, command := some w } :: rest) (hw : Spec.IllegalWord s.cfg w) :
    step s = .next s.take.illegalCommand := by
  obtain ⟨-, he⟩ | ⟨hlegal, -⟩ | ⟨hlegal, -⟩ | ⟨hlegal, -⟩ := step_command_cases hin
  case inl => exact he
  all_goals exact absurd hw hlegal

/-- Settles O7: every ground leads to the one illegal-command path, and that path writes `CMD_ERR` and the response. -/
theorem illegalWordSetsOnlyCmdErr : Obligations.IllegalWordSetsOnlyCmdErr := by
  unfold Obligations.IllegalWordSetsOnlyCmdErr
  intro s w rest hin hw
  rw [step_of_illegalWord hin hw, take_of_cons hin, State.illegalCommand]

/-! ### Idle steps -/

/-- An idle slot at the head of the inputs, or no slot at all, offers nothing. -/
theorem offered_of_idle_head {s : State} (h : ∀ slot ∈ s.inputs.take 1, slot = Spec.idleSlot) : s.offered = .idle := by
  cases hin : s.inputs with
  | nil => exact offered_nil hin
  | cons slot rest =>
    obtain rfl : slot = Spec.idleSlot := h slot (by simp [hin])
    exact offered_none hin rfl rfl

/-- As long as every slot still to come is idle, or there is none, a run keeps the registers and takes those slots
(60_exceptions.md R115). -/
theorem run_idle (n : Nat) : ∀ s : State, (∀ slot ∈ s.inputs.take n, slot = Spec.idleSlot) →
    ∃ r, Host.Core.run core n s = .next (s.withPorts (s.inputs.drop n) r) := by
  induction n with
  | zero => exact fun s _ => ⟨s.resp, rfl⟩
  | succ n ih =>
    intro s hidle
    have hoffer : s.offered = .idle := offered_of_idle_head fun slot hslot =>
      hidle slot (List.take_subset_take_left s.inputs (Nat.le_add_left 1 n) hslot)
    have htail : ∀ slot ∈ s.take.idle.inputs.take n, slot = Spec.idleSlot := fun slot hslot =>
      hidle slot (List.mem_of_mem_tail (by rwa [List.tail_take_eq_take_tail]))
    obtain ⟨r, hr⟩ := ih s.take.idle htail
    refine ⟨r, ?_⟩
    rw [run_succ_of_step (step_idle hoffer), hr, ← List.drop_tail]
    rfl

/-- Settles O9: the first `n` slots are idle in the first clause, and every slot there is in the second. -/
theorem idleStepsHoldState : Obligations.IdleStepsHoldState := by
  unfold Obligations.IdleStepsHoldState
  constructor
  · intro s n rest hin
    have hrest : s.inputs.drop n = rest := by simp [hin]
    rw [← hrest]
    exact run_idle n s fun slot hslot => List.eq_of_mem_replicate (n := n) (by simpa [hin] using hslot)
  · intro s n hin m
    obtain ⟨r, hr⟩ := run_idle m s fun slot hslot =>
      List.eq_of_mem_replicate (n := n) (hin ▸ List.mem_of_mem_take hslot)
    exact ⟨r, _, hr⟩

/-! ### No fault and no refusal -/

/-- Every command answers a next state, in every state (60_exceptions.md R100). -/
theorem exec_eq_next (i : Instr) (s : State) : ∃ t, exec i s = .next t := by
  obtain ⟨t, -, -, he⟩ | ⟨-, he⟩ | ⟨-, he⟩ | ⟨-, -, -, r, he⟩ := exec_cases i s <;> exact ⟨_, he⟩

/-- Settles O10: a step holds, resets, runs a command or takes the illegal-command path, and each answers a next state. -/
theorem blockNeverStops : Obligations.BlockNeverStops := by
  unfold Obligations.BlockNeverStops
  refine ⟨fun s => ?_, exec_eq_next⟩
  obtain ⟨-, hs⟩ | ⟨-, hs⟩ | ⟨w, i, -, -, hs⟩ | ⟨w, e, -, -, hs⟩ := step_cases s
  case inr.inr.inl =>
    obtain ⟨t, ht⟩ := exec_eq_next i s.take
    exact ⟨t, hs.trans ht⟩
  all_goals exact ⟨_, hs⟩

/-! ### At most one condition -/

/-- An EDGE that counts a desync counts no other event: its one result is DESYNC (40_frame_assembler.md R75). -/
theorem State.EdgeEnds.counts_only_desync {s u : State} {t : Timestamp} (h : s.EdgeEnds t u)
    (hd : u.desyncCnt ≠ s.desyncCnt) :
    u.csumCnt = s.csumCnt ∧ u.okCnt = s.okCnt ∧ u.repeatCnt = s.repeatCnt := by
  obtain ⟨hpair, hcsum, hdesync, hrepeat⟩ := h.frame
  have hkind : resKind u.res = 4#3 := by_contra fun hne => hd (hdesync hne)
  obtain ⟨-, -, -, hok⟩ := hpair (by simp [hkind])
  exact ⟨hcsum (by simp [hkind]), hok, hrepeat (by simp [hkind])⟩

/-- An EDGE that counts a checksum failure counts no other event: its one result is FRAME, and with a nonzero mask
(41_packet_validator.md R87). -/
theorem State.EdgeEnds.counts_only_csum {s u : State} {t : Timestamp} (h : s.EdgeEnds t u)
    (hc : u.csumCnt ≠ s.csumCnt) :
    u.desyncCnt = s.desyncCnt ∧ u.okCnt = s.okCnt ∧ u.repeatCnt = s.repeatCnt := by
  obtain ⟨hpair, hcsum, hdesync, hrepeat⟩ := h.frame
  obtain ⟨hkind, hmask⟩ : resKind u.res = 3#3 ∧ resCsum u.res ≠ 0#2 := by_contra fun hne => hc (hcsum hne)
  obtain ⟨-, -, -, hok⟩ := hpair fun hvalid => hmask hvalid.2
  exact ⟨hdesync (by simp [hkind]), hok, hrepeat (by simp [hkind])⟩

/-- Settles O45: of the four things the step of a command word can be, only a legal EDGE counts, and it has one result. -/
theorem atMostOneConditionPerStep : Obligations.AtMostOneConditionPerStep := by
  unfold Obligations.AtMostOneConditionPerStep
  intro s t w rest hin hs
  obtain ⟨-, he⟩ | ⟨hlegal, -, he⟩ | ⟨hlegal, -, he⟩ | ⟨hlegal, -, -, r, he⟩ := step_command_cases hin <;>
    obtain rfl := Host.Outcome.next.inj (he.symm.trans hs)
  · exact ⟨fun _ => ⟨rfl, rfl, rfl⟩, fun h => absurd rfl h, fun h => absurd rfl h⟩
  · have hends := afterEdge_ends s.take (Spec.aLow w)
    refine ⟨fun h => absurd h hlegal, fun h => ?_, fun h => ?_⟩
    · obtain ⟨hcsum, hok, hrepeat⟩ := hends.counts_only_desync h
      exact ⟨hcsum, hok, hrepeat, hlegal⟩
    · obtain ⟨hdesync, hok, hrepeat⟩ := hends.counts_only_csum h
      exact ⟨hdesync, hok, hrepeat, hlegal⟩
  · exact ⟨fun h => absurd h hlegal, fun h => absurd rfl h, fun h => absurd rfl h⟩
  · exact ⟨fun h => absurd h hlegal, fun h => absurd rfl h, fun h => absurd rfl h⟩

end Sys2Proof.Machine
end

section
/-! PROOFS. Reset and hazards (70_reset_and_hazards.md): what CLEAR keeps and reset does not. -/

namespace Sys2Proof.Machine

/-- Settles O27: CLEAR overwrites the assembler's registers in the state it is given, reset replaces the whole state, and
both leave `HC` at 0, which empties the window. -/
theorem resetAndClearDiffer : Obligations.ResetAndClearDiffer := by
  unfold Obligations.ResetAndClearDiffer
  intro s slot rest
  obtain ⟨-, hclear⟩ := clearResynchronises
  constructor
  · refine ⟨_, (hclear s).1, ?_⟩
    simp [entry?_of_hc_zero]
  · intro hin hreset
    have hempty : ∀ j, s.take.restart.entry? j = none := entry?_of_hc_zero (State.restart_hc s.take)
    refine ⟨s.take.restart, step_reset (offered_reset hin hreset), ?_⟩
    simp [hempty]

end Sys2Proof.Machine
end
